-- ==== Sys2Proof/Word.lean ====
section
/-! DEFINITION. The plain value types of the model: bytes and 16-bit levels as they are carried on the
links, colours, and the sparse table in which every numbered record of the block is held. -/

namespace Sys2Proof

/-- One byte of the console link, or the 8-bit value of one head-line slot. -/
abbrev Byte := BitVec 8

/-- A 16-bit field of a request: a level, a master, a tolerance (00_scope, "Units"). -/
abbrev Level := BitVec 16

/-- A triple of red, green and blue intent levels (00_scope, "Attribute"). -/
structure Colour where
  red : Nat
  green : Nat
  blue : Nat
deriving DecidableEq, Repr

/-- Numbered records, kept sparsely: a list of (number, record) pairs. A number that is not listed reads
as the family's default record. `Table.Canonical` is the form every operation keeps. -/
abbrev Table (α : Type) := List (Nat × α)

namespace Table

variable {α : Type}

/-- The record of number `k`: the first listed, or the default `d`. -/
def get (d : α) : Table α → Nat → α
  | [], _ => d
  | (j, v) :: m, k => if j = k then v else get d m k

/-- Puts `(k, v)` before the first entry of a higher number. -/
def insert (k : Nat) (v : α) : Table α → Table α
  | [] => [(k, v)]
  | (j, w) :: m => if k < j then (k, v) :: (j, w) :: m else (j, w) :: insert k v m

/-- The table without the entries of number `k`. -/
def erase (m : Table α) (k : Nat) : Table α :=
  m.filter (fun e => e.1 != k)

/-- The table whose record `k` is `v`. A record equal to the default is not listed. -/
def put [DecidableEq α] (d : α) (m : Table α) (k : Nat) (v : α) : Table α :=
  if v = d then erase m k else insert k v (erase m k)

/-- The numbers listed, in the order of the list (ascending in canonical form). -/
def keys (m : Table α) : List Nat :=
  m.map (fun e => e.1)

/-- The table of the records `f 0` to `f (n - 1)`. -/
def build [DecidableEq α] (d : α) (n : Nat) (f : Nat → α) : Table α :=
  ((List.range n).map (fun k => (k, f k))).filter (fun e => !decide (e.2 = d))

/-- Canonical form: numbers strictly rising, all below `n`, and no entry equal to the default. -/
def canonical [DecidableEq α] (d : α) (n : Nat) (m : Table α) : Bool :=
  decide (m.Pairwise (fun a b => a.1 < b.1)) && m.all (fun e => decide (e.1 < n) && !decide (e.2 = d))

end Table

end Sys2Proof
end

