-- ==== Sys2Proof/Syntax.lean ====
section
/-! DEFINITION. The commands of the block: one constructor of `Instr` for each row of
spec/opcode_table.json, with the operands the rules give the row. The block fetches nothing: a command is
a request of the console, an event of a line or of a timer, or a reset.

`t` of a command is the reading of the 1 µs rig time base at which the command is taken. A named field of a
request (a mode, a mark, a kind) is an `Option`: `none` is a code that names none of its values, which
R169 makes the owner refuse BAD_FIELD. Fields that a rule clamps are integers. -/

namespace Sys2Proof

/-! ## Named values carried by requests -/

/-- R1: how a personality makes colour. -/
inductive ColourSystem
  | additiveRgb | additiveRgbw | subtractiveCmy
deriving DecidableEq, Repr

/-- R1: the roles of a channel map. -/
inductive Role
  | pan | tilt | dimmer | shutter | emitter1 | emitter2 | emitter3 | emitter4
  | cyan | magenta | yellow | control
deriving DecidableEq, Repr

/-- R35: a layer's intensity mode. -/
inductive IntensityMode
  | latest | highest
deriving DecidableEq, Repr

/-- R35: a layer's mode. -/
inductive LayerMode
  | manual | chase | timecode
deriving DecidableEq, Repr

/-- R6: what a head's blink acts on. -/
inductive BlinkMask
  | intensity | colour | both
deriving DecidableEq, Repr

/-- R110: the run mark of the generator form of SET BLINK. -/
inductive RunMark
  | run | stop
deriving DecidableEq, Repr

/-- R119: the beat source setting. -/
inductive BeatSetting
  | auto | forceInternal
deriving DecidableEq, Repr

/-- R143: the priority of a query entry. -/
inductive Priority
  | routine | urgent
deriving DecidableEq, Repr

/-- R167: why a console link frame is discarded, beside a gap. -/
inductive FrameFault
  | oversize | framing | check
deriving DecidableEq, Repr

/-- R127: why a timecode message is discarded. A gap carries the character that ended it. -/
inductive TimecodeFault
  | gap (next : Byte) | range | check
deriving DecidableEq, Repr

/-! ## Operands with fields of their own -/

/-- A level triple as a request carries it. -/
structure Rgb where
  red : Level
  green : Level
  blue : Level
deriving DecidableEq, Repr

/-- R1, R3: one role entry of a DEFINE PERSONALITY. -/
structure RoleReq where
  role : Option Role
  offset : Nat
  width : Nat
  fixed : Int
deriving DecidableEq, Repr

/-- R2: the fields of DEFINE PERSONALITY. -/
structure PersonalityReq where
  id : Nat
  panRange : Int
  tiltRange : Int
  system : Option ColourSystem
  gains : List Level
  shutterOpen : Byte
  shutterClosed : Byte
  feedback : Option Bool
  defaultSpeed : Int
  defaultAccel : Int
  roles : List RoleReq
deriving DecidableEq, Repr

/-- R11: the three yes-or-no fields of SET HEAD. -/
structure HeadMarks where
  panInvert : Bool
  tiltInvert : Bool
  autoRehome : Bool
deriving DecidableEq, Repr

/-- R11: the fields of SET HEAD. `marks` is `none` when a mark has a bit set that names no value. -/
structure HeadReq where
  head : Nat
  marks : Option HeadMarks
  homePan : Int
  homeTilt : Int
  parkPan : Int
  parkTilt : Int
  altColour : Rgb
  driftTolerance : Level
deriving DecidableEq, Repr

/-- R20, R24: one head entry of STORE CUE or APPEND ENTRIES; a value is present when its mark is set. -/
structure EntryReq where
  head : Nat
  pan : Option Int
  tilt : Option Int
  intensity : Option Level
  colour : Option Rgb
deriving DecidableEq, Repr

/-- R25: the fields of STORE CUE. `strayMark`: some marks field has a bit set that names no value. -/
structure CueReq where
  list : Nat
  number : BitVec 16
  fadeMs : Int
  moveMs : Int
  colourMs : Int
  delayMs : Int
  followMs : Option Int
  tcFrame : Option Int
  entries : List EntryReq
  strayMark : Bool
deriving DecidableEq, Repr

/-- R99: the fields of SET ZONE. `active` is `none` when the mark has a bit set that names no value. -/
structure ZoneReq where
  zone : Nat
  group : Nat
  active : Option Bool
  panMin : BitVec 32
  panMax : BitVec 32
  tiltMin : BitVec 32
  tiltMax : BitVec 32
deriving DecidableEq, Repr

/-- R111: the target of a blink assignment. -/
inductive BlinkTarget
  | head (id : Nat)
  | group (id : Nat)
deriving DecidableEq, Repr

/-- R130: the action of SET TRIGGER with its fields. -/
inductive ActionReq
  | none
  | go (layer : Nat)
  | release (layer : Nat)
  | pause (layer : Nat)
  | resume (layer : Nat)
  | kill (layer : Nat)
  | hold
  | park
  | run
  | setMask (value : Int)
deriving DecidableEq, Repr

/-- R130: the action that the code of a SET TRIGGER names, without its field. -/
inductive ActionKind
  | none | go | release | pause | resume | kill | hold | park | run | setMask
deriving DecidableEq, Repr

/-- R148: the fields of CONFIGURE LINE. -/
structure LineReq where
  line : Nat
  enabled : Option Bool
  refreshPeriod : Int
  routineMaxWait : Int
  auditInterval : Int
deriving DecidableEq, Repr

/-- R138, R145: the eight characters of a reply frame, and whether every one had its stop bits. -/
structure ReplyChars where
  header : Byte
  flags : Byte
  panHigh : Byte
  panLow : Byte
  tiltHigh : Byte
  tiltLow : Byte
  faults : Byte
  check : Byte
  stopBits : Bool
deriving DecidableEq, Repr

/-! ## The commands -/

/-- One constructor for each row of spec/opcode_table.json, in the table's order. -/
inductive Instr
  /-- POWER_ON_RESET (R179): the douse line as it is first sampled. The rig time base restarts. -/
  | powerOnReset (douseLine : Bool)
  /-- START_UP_COMPLETE (R179): `altered` is absent when the image's bytes are read as they were written, and otherwise the low
  32 bits of the sum of the bytes read. -/
  | startUpComplete (t : Nat) (altered : Option (BitVec 32))
  /-- REQUEST_FRAME (R167, R169): bytes received on the console link one after another, each with its
  stop bit and without a gap. -/
  | requestFrame (t : Nat) (bytes : List Byte)
  /-- CONSOLE_BYTE_GAP (R167): more than 1 ms passed before the byte `next`. -/
  | consoleByteGap (t : Nat) (next : Byte)
  /-- CONSOLE_FRAME_DISCARD (R167). -/
  | consoleFrameDiscard (t : Nat) (cause : FrameFault)
  /-- TRANSMIT_FRAME_END (R171). -/
  | transmitFrameEnd (t : Nat)
  /-- IDENTIFY (R174). -/
  | identify (t : Nat) (tag : Byte)
  /-- READ_RIG (R174). -/
  | readRig (t : Nat) (tag : Byte)
  /-- READ_HEAD (R173). -/
  | readHead (t : Nat) (tag : Byte) (head : Nat)
  /-- RIG_RESET (R175). -/
  | rigReset (t : Nat) (tag : Byte)
  /-- SAVE (R177). -/
  | save (t : Nat) (tag : Byte)
  /-- SAVE_COMPLETE (R177). -/
  | saveComplete (t : Nat)
  /-- LOAD (R178). -/
  | load (t : Nat) (tag : Byte)
  /-- LOAD_REPLACEMENT_POINT (R178): `altered` as START_UP_COMPLETE has it. -/
  | loadReplacementPoint (t : Nat) (altered : Option (BitVec 32))
  /-- DEFINE_PERSONALITY (R2). -/
  | definePersonality (t : Nat) (tag : Byte) (p : PersonalityReq)
  /-- PATCH_HEAD (R7). -/
  | patchHead (t : Nat) (tag : Byte) (head personality line base : Nat)
  /-- UNPATCH_HEAD (R13). -/
  | unpatchHead (t : Nat) (tag : Byte) (head : Nat)
  /-- SET_HEAD (R11). -/
  | setHead (t : Nat) (tag : Byte) (h : HeadReq)
  /-- SET_HEAD_LIMITS (R12). -/
  | setHeadLimits (t : Nat) (tag : Byte) (head : Nat) (speed accel : Int)
  /-- DEFINE_GROUP (R16): bit `h` of `marks` is the membership mark of head `h`. -/
  | defineGroup (t : Nat) (tag : Byte) (group : Nat) (marks : BitVec 512)
  /-- CREATE_LIST (R22). -/
  | createList (t : Nat) (tag : Byte) (list : Nat)
  /-- SET_LIST_LOCK (R23): `some true` is locked. -/
  | setListLock (t : Nat) (tag : Byte) (list : Nat) (lock : Option Bool)
  /-- STORE_CUE (R25). -/
  | storeCue (t : Nat) (tag : Byte) (c : CueReq)
  /-- APPEND_ENTRIES (R28). -/
  | appendEntries (t : Nat) (tag : Byte) (list : Nat) (number : BitVec 16) (entries : List EntryReq)
      (strayMark : Bool)
  /-- DELETE_CUE (R29). -/
  | deleteCue (t : Nat) (tag : Byte) (list : Nat) (number : BitVec 16)
  /-- DELETE_LIST (R30). -/
  | deleteList (t : Nat) (tag : Byte) (list : Nat)
  /-- READ_LIST (R32). -/
  | readList (t : Nat) (tag : Byte) (list : Nat) (start : BitVec 16)
  /-- READ_CUE (R33). -/
  | readCue (t : Nat) (tag : Byte) (list : Nat) (number : BitVec 16) (startHead : Nat)
  /-- GO (R41). -/
  | go (t : Nat) (tag : Byte) (layer : Nat)
  /-- GOTO (R46). -/
  | goto (t : Nat) (tag : Byte) (layer : Nat) (number : BitVec 16)
  /-- PAUSE (R50). -/
  | pause (t : Nat) (tag : Byte) (layer : Nat)
  /-- RESUME (R50). -/
  | resume (t : Nat) (tag : Byte) (layer : Nat)
  /-- RELEASE (R51). -/
  | release (t : Nat) (tag : Byte) (layer : Nat)
  /-- KILL (R53). -/
  | kill (t : Nat) (tag : Byte) (layer : Nat)
  /-- SET_MASTER (R54). -/
  | setMaster (t : Nat) (tag : Byte) (layer : Nat) (master : Level)
  /-- SET_PRECEDENCE (R54). -/
  | setPrecedence (t : Nat) (tag : Byte) (layer : Nat) (precedence : Int)
  /-- SET_INTENSITY_MODE (R54). -/
  | setIntensityMode (t : Nat) (tag : Byte) (layer : Nat) (mode : Option IntensityMode)
  /-- SET_RELEASE_TIME (R54). -/
  | setReleaseTime (t : Nat) (tag : Byte) (layer : Nat) (ms : Int)
  /-- SET_CHASE_BEATS (R54). -/
  | setChaseBeats (t : Nat) (tag : Byte) (layer : Nat) (beats : Int)
  /-- SET_LAYER_MODE (R55). -/
  | setLayerMode (t : Nat) (tag : Byte) (layer : Nat) (mode : Option LayerMode)
  /-- ASSIGN_LIST (R55): `none` is the list id *none*. -/
  | assignList (t : Nat) (tag : Byte) (layer : Nat) (list : Option Nat)
  /-- READ_LAYER (R57). -/
  | readLayer (t : Nat) (tag : Byte) (layer : Nat)
  /-- SET_MASK (R64). -/
  | setMask (t : Nat) (tag : Byte) (value : Int)
  /-- HOLD (R65). -/
  | hold (t : Nat) (tag : Byte)
  /-- PARK (R65). -/
  | park (t : Nat) (tag : Byte)
  /-- RUN (R65). -/
  | run (t : Nat) (tag : Byte)
  /-- CLEAR_DOUSE (R71). -/
  | clearDouse (t : Nat) (tag : Byte)
  /-- ENABLE_ZONE_WRITE (R98). -/
  | enableZoneWrite (t : Nat) (tag : Byte)
  /-- SET_ZONE (R99). -/
  | setZone (t : Nat) (tag : Byte) (z : ZoneReq)
  /-- CLEAR_ZONE (R101). -/
  | clearZone (t : Nat) (tag : Byte) (zone : Nat)
  /-- READ_ZONE (R102). -/
  | readZone (t : Nat) (tag : Byte) (zone : Nat)
  /-- SET_BLINK_GENERATOR (R110). -/
  | setBlinkGenerator (t : Nat) (tag : Byte) (generator : Nat) (rate : Int) (mark : Option RunMark)
  /-- SET_BLINK_ASSIGNMENT (R111): `generator = none` is *none*; `target = none` a target form that
  names none. -/
  | setBlinkAssignment (t : Nat) (tag : Byte) (target : Option BlinkTarget) (generator : Option Nat)
      (mask : Option BlinkMask)
  /-- SET_TEMPO (R123). -/
  | setTempo (t : Nat) (tag : Byte) (period : Int)
  /-- SET_BEAT_SOURCE (R124). -/
  | setBeatSource (t : Nat) (tag : Byte) (setting : Option BeatSetting)
  /-- SET_TRIGGER (R130). -/
  | setTrigger (t : Nat) (tag : Byte) (line : Nat) (action : Option ActionReq) (precedence : Int)
  /-- SET_TRIGGER_FLOOR (R132). -/
  | setTriggerFloor (t : Nat) (tag : Byte) (value : Int)
  /-- CLEAR_TRIGGER (R133): `none` is *all*. -/
  | clearTrigger (t : Nat) (tag : Byte) (line : Option Nat)
  /-- READ_TRIGGER (R134). -/
  | readTrigger (t : Nat) (tag : Byte) (line : Nat)
  /-- CONFIGURE_LINE (R148). -/
  | configureLine (t : Nat) (tag : Byte) (c : LineReq)
  /-- QUERY_HEAD (R149). -/
  | queryHead (t : Nat) (tag : Byte) (head : Nat) (priority : Option Priority)
  /-- READ_LINE (R150). -/
  | readLine (t : Nat) (tag : Byte) (line : Nat)
  /-- REHOME_HEAD (R162). -/
  | rehomeHead (t : Nat) (tag : Byte) (head : Nat)
  /-- CLEAR_CONDITION (R163). -/
  | clearCondition (t : Nat) (tag : Byte) (head : Nat)
  /-- SET_AUDIT (R163). -/
  | setAudit (t : Nat) (tag : Byte) (limit : Int)
  /-- LAYER_STEP (R39). -/
  | layerStep (t : Nat)
  /-- FOLLOW_EXPIRY (R45). -/
  | followExpiry (t : Nat) (layer : Fin 12)
  /-- CHASE_COUNT_EXPIRY (R48). -/
  | chaseCountExpiry (t : Nat) (layer : Fin 12)
  /-- BLINK_TOGGLE (R109). -/
  | blinkToggle (t : Nat) (generator : Fin 4)
  /-- LIMITER_STEP (R78). -/
  | limiterStep (t : Nat)
  /-- DOUSE_ASSERT (R70). -/
  | douseAssert (t : Nat)
  /-- DOUSE_DEASSERT (R70). -/
  | douseDeassert (t : Nat)
  /-- BEAT_PULSE (R120). -/
  | beatPulse (t : Nat)
  /-- INTERNAL_BEAT_EXPIRY (R122). -/
  | internalBeatExpiry (t : Nat)
  /-- SUBDIVISION_EXPIRY (R125). -/
  | subdivisionExpiry (t : Nat)
  /-- TIMECODE_MESSAGE (R127, R128): characters received on the timecode line without a gap. -/
  | timecodeMessage (t : Nat) (chars : List Byte)
  /-- TIMECODE_MESSAGE_DISCARD (R127). -/
  | timecodeMessageDiscard (t : Nat) (cause : TimecodeFault)
  /-- TIMECODE_LOCK_EXPIRY (R128). -/
  | timecodeLockExpiry (t : Nat)
  /-- TRIGGER_EDGE (R129): a debounced rising edge of the line. -/
  | triggerEdge (t : Nat) (line : Fin 8)
  /-- REFRESH_TIMER_EXPIRY (R139). -/
  | refreshTimerExpiry (t : Nat) (line : Fin 16)
  /-- REFRESH_FRAME_END (R140). -/
  | refreshFrameEnd (t : Nat) (line : Fin 16)
  /-- QUERY_FRAME_END (R144). -/
  | queryFrameEnd (t : Nat) (line : Fin 16)
  /-- REPLY_FRAME_RECEIVED (R145). -/
  | replyFrameReceived (t : Nat) (line : Fin 16) (chars : ReplyChars)
  /-- REPLY_START_TIMEOUT (R145). -/
  | replyStartTimeout (t : Nat) (line : Fin 16)
  /-- REPLY_SHORT_TIMEOUT (R145). -/
  | replyShortTimeout (t : Nat) (line : Fin 16)
  /-- AUDIT_TIMER_EXPIRY (R154). -/
  | auditTimerExpiry (t : Nat) (line : Fin 16)
  /-- SUPERVISION_POLL (R155). -/
  | supervisionPoll (t : Nat)
  /-- HOMING_DEADLINE_EXPIRY (R161). -/
  | homingDeadlineExpiry (t : Nat) (head : Fin 512)
deriving DecidableEq, Repr

end Sys2Proof
end

