-- ==== Sys2Proof/Decode.lean ====
section
/-! DEFINITION. The commands that the words of the opcode table spell: none, since no row of the table gives bits. The bytes
of a console request are read by the receive assembler (Machine/ConsoleLink.lean). -/

namespace Sys2Proof

/-- The command a word spells by the table's bits. -/
def decodeTableWord (_nbits _w : Nat) : Option Instr := none

end Sys2Proof
end

