-- ==== Sys2Proof/Config.lean ====
section
/-! DEFINITION. What is fixed for the part: the capacities IDENTIFY reports (R174), the constants of the
rules, and, as constants without a body, the one-byte codes of named request fields, which the spec does not
print (notes/assumptions/3.md). -/

namespace Sys2Proof.Config

/-! ## Capacities (R174) -/

def heads : Nat := 512
def personalities : Nat := 32
def groups : Nat := 64
def zones : Nat := 32
def layers : Nat := 12
def cueLists : Nat := 64
def cuePool : Nat := 4096
def entryPool : Nat := 65536
def slotPool : Nat := 16384
def headLines : Nat := 16
def triggerLines : Nat := 8
def blinkGenerators : Nat := 4
def noticeCapacity : Nat := 64
/-- R174: the revision IDENTIFY reports. -/
def revision : Nat := 1
def vendor : String := "AZOWEN"
def partName : String := "ORCHWELL 5120"

/-! ## Limits -/

/-- R171: immediate replies held at one time. -/
def immediateReplies : Nat := 32
/-- R143: entries of a line's query queue. -/
def queryQueue : Nat := 8
/-- R166: the longest body of a frame. -/
def maxBody : Nat := 1024
/-- The full value of a level or channel unit. -/
def full : Nat := 65535
/-- R19, R35: the longest time of a cue or a release, in ms. -/
def maxMs : Nat := 600000
/-- R19: the last timecode frame of the day. -/
def maxFrame : Nat := 2591999
/-- R1: the largest axis range, in centidegrees. -/
def maxAngle : Nat := 72000

/-! ## Times, in µs of the rig time base unless named otherwise -/

/-- R39, R78: the layer step and the limiter step. -/
def stepUs : Nat := 4000
def stepMs : Nat := 4
/-- R84: the settle timer's ceiling, in ms. -/
def settledMs : Nat := 500
/-- R155: the supervision poll. -/
def pollUs : Nat := 250000
/-- R161: the homing deadline. -/
def homingUs : Nat := 20000000
/-- R137: the exchange limit. -/
def exchangeLimitUs : Nat := 3464
/-- R145: the time a reply has to begin. -/
def replyStartUs : Nat := 2000
/-- R128: the timecode lock timer. -/
def lockUs : Nat := 100000
/-- R129: the debounce of a trigger line. -/
def debounceUs : Nat := 10000
/-- R120: the shortest and longest beat. -/
def minBeatUs : Nat := 200000
def maxBeatUs : Nat := 2000000

/-! ## Codes of named request fields

R169 says what a code that names no value does; which byte names which value is not in the spec. Each is
a constant with no body, so that nothing can be proved of a particular code. -/

opaque colourSystemOfCode : Byte → Option ColourSystem
opaque roleOfCode : Byte → Option Role
opaque lockOfCode : Byte → Option Bool
opaque intensityModeOfCode : Byte → Option IntensityMode
opaque layerModeOfCode : Byte → Option LayerMode
/-- `some true`: the generator form; `some false`: the assignment form. -/
opaque blinkFormOfCode : Byte → Option Bool
opaque runMarkOfCode : Byte → Option RunMark
/-- `some true`: the target is a head; `some false`: a group. -/
opaque blinkTargetOfCode : Byte → Option Bool
opaque blinkMaskOfCode : Byte → Option BlinkMask
opaque beatSettingOfCode : Byte → Option BeatSetting
opaque actionOfCode : Byte → Option ActionKind
opaque priorityOfCode : Byte → Option Priority

end Sys2Proof.Config
end

