-- ==== Sys2Proof/Machine/State.lean ====
section
/-! DEFINITION. The state of the block, owner by owner as 00_scope's block overview lists it, the replies
and notices it makes, the reasons a step can stop, and the state right after a power-on reset. -/

namespace Sys2Proof.Machine

open Sys2Proof

/-! ## Reasons to stop -/

/-- Why the part stops. It has no constructor: no rule of the spec names a condition that stops the part, and
no command of the model faults. Safe or unsafe does not arise. -/
inductive Fault
deriving DecidableEq, Repr

/-- Why a command is refused. -/
inductive Refusal
  /-- Raised by an arm of `exec` whose command has no meaning yet; no arm is so at present. Safe: the
  machine stops where the hardware goes on. -/
  | notModelled (mnemonic : String)
deriving DecidableEq, Repr

/-! ## Patch (01) -/

/-- R1: the width of a role. -/
inductive Width
  | w8 | w16
deriving DecidableEq, Repr

/-- R1: one role entry of a stored channel map. -/
structure RoleEntry where
  role : Role
  offset : Nat
  width : Width
  fixed : Nat
deriving DecidableEq, Repr

/-- R1: a defined personality. The footprint is computed from the channel map. -/
structure Personality where
  panRange : Nat
  tiltRange : Nat
  system : ColourSystem
  gains : List Nat
  shutterOpen : Byte
  shutterClosed : Byte
  feedback : Bool
  defaultSpeed : Nat
  defaultAccel : Nat
  channelMap : List RoleEntry
deriving DecidableEq, Repr

/-- R6: where a patched head sits. -/
structure Placement where
  personality : Nat
  line : Nat
  base : Nat
deriving DecidableEq, Repr

/-- R6: the patch fields of a head record. The head is patched when `placement` is present. -/
structure HeadPatch where
  placement : Option Placement
  panInvert : Bool
  tiltInvert : Bool
  maxSpeed : Nat
  maxAccel : Nat
  homePan : Nat
  homeTilt : Nat
  parkPan : Nat
  parkTilt : Nat
  altColour : Colour
  blinkGenerator : Option Nat
  blinkMask : BlinkMask
  driftTolerance : Nat
  autoRehome : Bool
deriving DecidableEq, Repr

/-- R6: the unpatched values. -/
def HeadPatch.unpatched : HeadPatch where
  placement := none
  panInvert := false
  tiltInvert := false
  maxSpeed := 1
  maxAccel := 1
  homePan := 0
  homeTilt := 0
  parkPan := 0
  parkTilt := 0
  altColour := ⟨0, 0, 0⟩
  blinkGenerator := none
  blinkMask := .both
  driftTolerance := 300
  autoRehome := true

/-- What the patch block owns: the personality, head and group tables. Bit `h` of a group is the
membership of head `h` (R16). -/
structure Patch where
  personalities : Table (Option Personality)
  heads : Table HeadPatch
  groups : Table (BitVec 512)
deriving DecidableEq, Repr

/-! ## Cue memory (02) -/

/-- R20: a stored head entry. -/
structure Entry where
  head : Nat
  pan : Option Nat
  tilt : Option Nat
  intensity : Option Nat
  colour : Option Colour
deriving DecidableEq, Repr

/-- R19: a stored cue. -/
structure Cue where
  number : Nat
  fadeMs : Nat
  moveMs : Nat
  colourMs : Nat
  delayMs : Nat
  followMs : Option Nat
  tcFrame : Option Nat
  entries : List Entry
deriving DecidableEq, Repr

/-- R18: a created cue list; its cues ascend by number. -/
structure CueList where
  locked : Bool
  cues : List Cue
deriving DecidableEq, Repr

/-- What cue memory owns. A free list is `none`. The free counts of the pools are computed (R21). -/
structure Cues where
  lists : Table (Option CueList)
deriving DecidableEq, Repr

/-! ## Playback (03) -/

/-- The four attributes of a head, in the order of a fade-slot table (R37). -/
inductive Attr
  | pan | tilt | intensity | colour
deriving DecidableEq, Repr

/-- The value of an attribute: an angle or a level, or the triple of COLOUR. -/
inductive Val
  | scalar (n : Nat)
  | triple (c : Colour)
deriving DecidableEq, Repr

/-- R37: whether a slot is a release slot of a GOTO. -/
inductive ReleaseMark
  | none | fadeOut | hold
deriving DecidableEq, Repr

/-- R37: a fade slot. -/
structure Slot where
  head : Nat
  attr : Attr
  fromVal : Val
  toVal : Val
  delayMs : Nat
  fadeMs : Nat
  elapsedMs : Nat
  mark : ReleaseMark
deriving DecidableEq, Repr

/-- R36: the states of a layer. -/
inductive LayerState
  | idle | running | settled | paused | releasing
deriving DecidableEq, Repr

/-- R35: what a PAUSE interrupted. -/
inductive PausedFrom
  | running | releasing
deriving DecidableEq, Repr

/-- R35: the settings of a layer, the part the show image records. -/
structure LayerSettings where
  mode : LayerMode
  list : Option Nat
  precedence : Nat
  master : Nat
  intensityMode : IntensityMode
  releaseMs : Nat
  chaseBeats : Nat
deriving DecidableEq, Repr

/-- R35: the power-on settings of a layer. -/
def LayerSettings.powerOn : LayerSettings where
  mode := .manual
  list := none
  precedence := 8
  master := Config.full
  intensityMode := .latest
  releaseMs := 2000
  chaseBeats := 1

/-- R35: a layer record. -/
structure Layer where
  settings : LayerSettings
  state : LayerState
  pausedFrom : Option PausedFrom
  chaseCount : Nat
  currentCue : Option Nat
  followMs : Option Nat
  refusedTarget : Option Nat
  slots : List Slot
deriving DecidableEq, Repr

/-- R35: the layer record after a power-on reset. -/
def Layer.powerOn : Layer where
  settings := LayerSettings.powerOn
  state := .idle
  pausedFrom := none
  chaseCount := 0
  currentCue := none
  followMs := none
  refusedTarget := none
  slots := []

/-- What playback owns. `takeStack` holds the layers that are not IDLE, most recently taken last (R40).
`stepTimer` is the reading of the rig time base at which the layer step next expires (R39). -/
structure Playback where
  layers : Table Layer
  takeStack : List Nat
  stepTimer : Nat
deriving DecidableEq, Repr

/-! ## Merge (04) -/

/-- R65: the rig mode. -/
inductive RigMode
  | run | hold | park
deriving DecidableEq, Repr

/-- What the merge owns, with the level of the douse input line. `douseLatch = true` is SET (R70). -/
structure Merge where
  mask : Nat
  mode : RigMode
  douseLatch : Bool
  douseLine : Bool
deriving DecidableEq, Repr

/-! ## Motion limiter (05) -/

/-- R76: one axis of a head. -/
structure Axis where
  position : Nat
  velocity : Int
deriving DecidableEq, Repr

/-- R76: the limiter's state for a patched head; `settle` in ms. -/
structure Motion where
  pan : Axis
  tilt : Axis
  settle : Nat
deriving DecidableEq, Repr

/-- What the limiter owns. An unpatched head has no motion (R77). -/
structure Limiter where
  heads : Table (Option Motion)
  stepTimer : Nat
deriving DecidableEq, Repr

/-! ## Zone table (06) -/

/-- R93: a zone record. -/
structure Zone where
  active : Bool
  group : Nat
  panMin : Nat
  panMax : Nat
  tiltMin : Nat
  tiltMax : Nat
deriving DecidableEq, Repr

/-- R93: the cleared values. -/
def Zone.cleared : Zone where
  active := false
  group := 0
  panMin := 0
  panMax := 0
  tiltMin := 0
  tiltMax := 0

/-- What the zone block owns; `writeEnable = true` is SET (R97). -/
structure Zones where
  zones : Table Zone
  writeEnable : Bool
deriving DecidableEq, Repr

/-! ## Effects (07) -/

/-- R108: a blink generator; `on = true` is phase ON. -/
structure Generator where
  rate : Nat
  running : Bool
  on : Bool
  count : Nat
deriving DecidableEq, Repr

/-- R108: the power-on values. -/
def Generator.powerOn : Generator where
  rate := 4
  running := false
  on := true
  count := 0

/-- What the effects block owns. -/
structure Effects where
  generators : Table Generator
deriving DecidableEq, Repr

/-! ## Show inputs (08) -/

/-- R119: what beat events follow. -/
inductive BeatSource
  | external | internal
deriving DecidableEq, Repr

/-- R125: the running subdivision timer: when it expires, the time it is reloaded with, and its next quarter. -/
structure Subdivision where
  deadline : Nat
  reload : Nat
  next : Nat
deriving DecidableEq, Repr

/-- R119: the beat part; `timer` is the reading at which the internal beat timer expires. -/
structure Beat where
  source : BeatSource
  setting : BeatSetting
  period : Nat
  history : List Nat
  previousPulse : Option Nat
  timer : Nat
  missed : Nat
  subdivision : Option Subdivision
deriving DecidableEq, Repr

/-- R127, R128: the timecode receiver; `partialChars` are the characters of the message being assembled. -/
structure Timecode where
  locked : Bool
  frame : Nat
  lockTimer : Option Nat
  partialChars : List Byte
deriving DecidableEq, Repr

/-- R130: the action of a trigger map entry. -/
inductive Action
  | none
  | go (layer : Nat)
  | release (layer : Nat)
  | pause (layer : Nat)
  | resume (layer : Nat)
  | kill (layer : Nat)
  | hold
  | park
  | run
  | setMask (value : Nat)
deriving DecidableEq, Repr

/-- R130: a trigger map entry. -/
structure TriggerEntry where
  action : Action
  precedence : Nat
deriving DecidableEq, Repr

/-- R130: the power-on entry. -/
def TriggerEntry.powerOn : TriggerEntry where
  action := .none
  precedence := 1

/-- R129, R130: a trigger line. -/
structure Trigger where
  pending : Bool
  lastEdge : Option Nat
  entry : TriggerEntry
deriving DecidableEq, Repr

/-- R135: a trigger line after a power-on reset. -/
def Trigger.powerOn : Trigger where
  pending := false
  lastEdge := none
  entry := TriggerEntry.powerOn

/-- What the show inputs own. -/
structure Inputs where
  beat : Beat
  timecode : Timecode
  triggers : Table Trigger
  floor : Nat
deriving DecidableEq, Repr

/-! ## Head lines (09) -/

/-- R143: the kind of a query. -/
inductive QueryKind
  | status | home
deriving DecidableEq, Repr

/-- R143: who asked for a query. -/
inductive Origin
  | audit
  | supervision
  | console (tag : Byte)
deriving DecidableEq, Repr

/-- R143: a query entry while queued. -/
structure QueryEntry where
  head : Nat
  kind : QueryKind
  priority : Priority
  origin : Origin
deriving DecidableEq, Repr

/-- R144: the judge snapshot filled at the exchange start. -/
structure Judge where
  values : Option (Nat × Nat)
  settled : Bool
deriving DecidableEq, Repr

/-- R144: the query frame is being sent, or the reply window is open since the reading given. -/
inductive Phase
  | sending
  | window (opened : Nat)
deriving DecidableEq, Repr

/-- R146: why the outcome of an exchange is handed to no one. `unpatched` says whether the end releases the
homing count (R15, R161). -/
inductive Discard
  | kept
  | unpatched (releases : Bool)
  | repatched
  | loaded
deriving DecidableEq, Repr

/-- R144 to R146, R151: an exchange in progress. `frame` holds the slots of its query frame, header first. -/
structure Exchange where
  entry : QueryEntry
  judge : Judge
  frame : List Byte
  phase : Phase
  discard : Discard
  abandoned : Bool
deriving DecidableEq, Repr

/-- R140: the turn state, with what is on the wire. The slots of a refresh frame stand header first (R138). -/
inductive Turn
  | idle
  | frame (slots : List Byte)
  | exchange (x : Exchange)
deriving DecidableEq, Repr

/-- R136: the settings of a line, the part the show image records. -/
structure LineSettings where
  enabled : Bool
  refreshMs : Nat
  maxWait : Nat
  auditMs : Nat
deriving DecidableEq, Repr

/-- R136: the power-on settings of a line. -/
def LineSettings.powerOn : LineSettings where
  enabled := true
  refreshMs := 100
  maxWait := 4
  auditMs := 200

/-- R142: the pan and tilt channel values last sent to a head. -/
structure LastSent where
  head : Nat
  pan : Nat
  tilt : Nat
deriving DecidableEq, Repr

/-- R136: a line record. Timers are `none` when stopped, else the reading at which they run out. -/
structure Line where
  settings : LineSettings
  turn : Turn
  refreshDue : Bool
  refreshTimer : Option Nat
  queue : List QueryEntry
  wait : Nat
  auditTimer : Option Nat
  auditCursor : Option Nat
  snapshot : List LastSent
deriving DecidableEq, Repr

/-- R136: a line after a power-on reset, its audit timer started with 200 ms. -/
def Line.powerOn : Line where
  settings := LineSettings.powerOn
  turn := .idle
  refreshDue := false
  refreshTimer := none
  queue := []
  wait := 0
  auditTimer := some 200000
  auditCursor := none
  snapshot := []

/-- What the head lines block owns. -/
structure Lines where
  lines : Table Line
deriving DecidableEq, Repr

/-! ## Supervision (10) -/

/-- R152: the condition of a head. -/
inductive Condition
  | active | drifted | homing | lost | faulted
deriving DecidableEq, Repr

/-- R152: the re-home stage of a head. -/
inductive Stage
  | none | queued | sent | homing
deriving DecidableEq, Repr

/-- R138, R152: the fault flags of a reply. -/
structure Faults where
  motor : Bool
  emitter : Bool
  overtemp : Bool
deriving DecidableEq, Repr

/-- R152: a head's last reply. -/
structure LastReply where
  pan : Nat
  tilt : Nat
  faults : Faults
deriving DecidableEq, Repr

/-- R152: the supervision record of a head; `deadline` is the reading at which its homing deadline expires. -/
structure Watch where
  condition : Condition
  strikes : Nat
  misses : Nat
  lastReply : Option LastReply
  stage : Stage
  deadline : Option Nat
deriving DecidableEq, Repr

/-- R152: the record of an unpatched head, and after a power-on reset. -/
def Watch.unpatched : Watch where
  condition := .active
  strikes := 0
  misses := 0
  lastReply := none
  stage := .none
  deadline := none

/-- What supervision owns. -/
structure Supervision where
  heads : Table Watch
  rehomeQueue : List Nat
  homingCount : Nat
  homingLimit : Nat
  pollTimer : Nat
deriving DecidableEq, Repr

/-! ## Show store and start-up (11) -/

/-- R176: the state word. -/
inductive StateWord
  | never | writing | written
deriving DecidableEq, Repr

/-- R176: the image state. -/
inductive ImageState
  | empty | valid | invalid
deriving DecidableEq, Repr

/-- R176: the content of a show image. -/
structure Image where
  personalities : Table (Option Personality)
  heads : Table HeadPatch
  groups : Table (BitVec 512)
  zones : Table Zone
  lists : Table (Option CueList)
  triggers : Table TriggerEntry
  lines : Table LineSettings
  layers : Table LayerSettings
deriving DecidableEq, Repr

/-- R176: what the store is doing; SAVING and LOADING with the tag of their request, SAVING with the content
captured at its acceptance (R177). -/
inductive Activity
  | idle
  | saving (tag : Byte) (captured : Image)
  | loading (tag : Byte)
deriving DecidableEq, Repr

/-- What the show store owns: `check` is the check the image holds, `sum` the low 32 bits of the sum of its bytes as they were
last written or read (notes/assumptions/8.md). -/
structure Store where
  word : StateWord
  check : BitVec 32
  sum : BitVec 32
  image : Option Image
  activity : Activity
deriving DecidableEq, Repr

/-- R179: the result of start-up. -/
inductive StartResult
  | empty | invalid | loaded
deriving DecidableEq, Repr

/-- R179, R180: the start-up state. -/
inductive StartUp
  | starting
  | ready (result : StartResult)
deriving DecidableEq, Repr

/-! ## Replies and notices (11) -/

/-- R171: the status codes. -/
inductive Status
  | ok | clamped | badLength | badKind | badField | notFound | duplicate | overlap | inUse | noSpace
  | listLocked | noList | endOfList | slotPoolFull | wrongState | zoneLocked | queueFull | storeBusy
  | tagBusy | noReply | aborted | starting
deriving DecidableEq, Repr

/-- R62: one contributing layer of a contribution report. -/
structure ContribReport where
  layer : Nat
  precedence : Nat
  value : Val
  scaled : Option Nat
  intensityMode : Option IntensityMode
  candidate : Bool
deriving DecidableEq, Repr

/-- R62: the contribution report of one attribute; `decidedBy = none` is the source DEFAULT. -/
structure MergeReport where
  target : Val
  decidedBy : Option Nat
  layers : List ContribReport
deriving DecidableEq, Repr

/-- R76: what READ HEAD shows of one axis. -/
structure AxisReport where
  position : Nat
  velocity : Int
  target : Nat
deriving DecidableEq, Repr

/-- R76: the limiter's part of READ HEAD. -/
structure MotionReport where
  pan : AxisReport
  tilt : AxisReport
  settle : Nat
deriving DecidableEq, Repr

/-- R106, R117: the forcing conditions. -/
inductive Forcing
  | douse | park | homing | faulted | zone
deriving DecidableEq, Repr

/-- R117: the blink result; `phaseOn` is absent when no generator is assigned. -/
structure BlinkReport where
  generator : Option Nat
  phaseOn : Option Bool
  mask : BlinkMask
  tookIntensity : Bool
  replacedColour : Bool
deriving DecidableEq, Repr

/-- R117: the encoder's part of READ HEAD. -/
structure OutputReport where
  intensity : Nat
  forcing : List Forcing
  blink : BlinkReport
  colour : Colour
  emitters : List Nat
  panValue : Nat
  tiltValue : Nat
  shutter : Byte
deriving DecidableEq, Repr

/-- R165: supervision's part of READ HEAD. `place` counts from 1; `deadline` is the time remaining in µs. -/
structure WatchReport where
  condition : Condition
  strikes : Nat
  misses : Nat
  lastReply : Option LastReply
  stage : Stage
  place : Option Nat
  deadline : Option Nat
deriving DecidableEq, Repr

/-- R173: the parts READ HEAD gives for a patched head. -/
structure PatchedReport where
  patch : HeadPatch
  pan : MergeReport
  tilt : MergeReport
  intensity : MergeReport
  colour : MergeReport
  motion : Option MotionReport
  zones : List Nat
  output : Option OutputReport
  lastSent : Option (Nat × Nat)
  watch : WatchReport
deriving DecidableEq, Repr

/-- R173: the READ HEAD reply. -/
inductive HeadReport
  | unpatched (groups : List Nat) (watch : WatchReport)
  | patched (r : PatchedReport)
deriving DecidableEq, Repr

/-- R174: the READ RIG reply. -/
structure RigReport where
  mode : RigMode
  mask : Nat
  douseLatch : Bool
  douseLine : Bool
  beatSource : BeatSource
  beatSetting : BeatSetting
  beatPeriod : Nat
  intervals : Nat
  timecodeLocked : Bool
  timecodeFrame : Nat
  floor : Nat
  pending : List Bool
  homingCount : Nat
  homingLimit : Nat
  rehomeQueued : Nat
  freeCues : Nat
  freeEntries : Nat
  freeSlots : Nat
  saving : Bool
  loading : Bool
  image : ImageState
  imagePages : Option Nat
  tagsInFlight : Nat
  notices : Nat
  lost : Bool
deriving DecidableEq, Repr

/-- R174: the IDENTIFY reply: names, revision, capacities (heads, personalities, groups, zones, layers, cue
lists, cues, entries, fade slots, head lines, trigger lines, blink generators, notices), start-up state. -/
structure Identity where
  vendor : String
  part : String
  revision : Nat
  capacities : List Nat
  startUp : StartUp
deriving DecidableEq, Repr

/-- R32: a cue summary. -/
structure CueSummary where
  number : Nat
  entries : Nat
  followMs : Option Nat
  tcFrame : Option Nat
deriving DecidableEq, Repr

/-- R32: the READ LIST reply. -/
inductive ListReport
  | free
  | created (locked : Bool) (cues entries : Nat) (summaries : List CueSummary) (more : Bool)
deriving DecidableEq, Repr

/-- R33: the READ CUE reply: the cue with the entries that fit, its entry count, and the next head. -/
structure CueReport where
  cue : Cue
  entries : Nat
  nextHead : Option Nat
deriving DecidableEq, Repr

/-- R57: the READ LAYER reply; `position` counts from 1 at the bottom of the take stack. -/
structure LayerReport where
  state : LayerState
  pausedFrom : Option PausedFrom
  settings : LayerSettings
  currentCue : Option Nat
  followMs : Option Nat
  chaseCount : Nat
  refusedTarget : Option Nat
  slots : Nat
  releaseSlots : Nat
  position : Option Nat
  freeSlots : Nat
deriving DecidableEq, Repr

/-- R140: the turn state as a name. -/
inductive TurnName
  | idle | frame | exchange
deriving DecidableEq, Repr

/-- R150: the exchange in progress as READ LINE shows it. -/
structure ExchangeReport where
  head : Nat
  kind : QueryKind
  origin : Origin
  discarded : Bool
deriving DecidableEq, Repr

/-- R150: the READ LINE reply. Times in µs, the effective period in ms. -/
structure LineReport where
  settings : LineSettings
  slotCount : Nat
  frameTime : Nat
  effectiveMs : Nat
  turn : TurnName
  refreshDue : Bool
  refreshRemaining : Option Nat
  wait : Nat
  priority : Priority
  queue : List QueryEntry
  exchange : Option ExchangeReport
  snapshot : List LastSent
deriving DecidableEq, Repr

/-- R138, R146: what a fixture reported. -/
structure Reported where
  homing : Bool
  pan : Nat
  tilt : Nat
  faults : Faults
deriving DecidableEq, Repr

/-- The fields a reply carries beside its status, each as the rule of its request lists them. -/
inductive ReplyBody
  /-- the status byte alone -/
  | bare
  | identity (i : Identity)
  | rig (r : RigReport)
  | head (r : HeadReport)
  | rigReset (notices aborted : Nat)
  | saved (pages bytes : Nat)
  | loaded (heads cues entries : Nat)
  | imageState (i : ImageState)
  | footprint (slots : Nat)
  | patched (footprint slotCount : Nat) (oldSlotCount : Option Nat) (keptClamped : Bool)
  | unpatched (fadeSlots queueEntries aborted : Nat)
  | members (n : Nat)
  | storedCue (replaced : Bool) (cues freeCues freeEntries : Nat)
  | appended (added replaced entries freeEntries : Nat)
  | deletedCue (cues freeCues freeEntries : Nat)
  | deletedList (cues entries layers freeCues freeEntries : Nat)
  | list (r : ListReport)
  | cue (r : CueReport)
  | took (cue created rebased skipped freeSlots : Nat)
  | wentTo (cue created rebased released skipped freeSlots : Nat)
  | layerState (s : LayerState)
  | rebased (slots : Nat)
  | removed (slots : Nat)
  | layer (r : LayerReport)
  | mask (before after : Nat)
  | modeBefore (m : RigMode)
  | douse (line latch : Bool)
  | zoneLatch (set : Bool)
  | zone (z : Zone) (latch : Bool)
  | generator (g : Generator)
  | written (records : Nat)
  | tempo (period : Nat)
  | beatSource (source : BeatSource) (setting : BeatSetting)
  | trigger (entry : TriggerEntry) (pending : Bool)
  | floor (before after acted : Nat)
  | cleared (lines : List (Nat × Bool))
  | triggerRead (entry : TriggerEntry) (pending above : Bool)
  | lineSettings (s : LineSettings) (effectiveMs : Nat)
  | line (r : LineReport)
  | reported (r : Reported)
  /-- R162: the place in the re-home queue counted from 1, or `none` for *sent* -/
  | rehome (place : Option Nat)
  | conditionBefore (c : Condition)
  | audit (limit count : Nat)
deriving DecidableEq, Repr

/-- R166, R171: a reply waiting to be sent; `immediate` says whether it was made when its request was handled. -/
structure Reply where
  kind : Byte
  tag : Byte
  status : Status
  body : ReplyBody
  immediate : Bool
deriving DecidableEq, Repr

/-- R56: the source of a take. -/
inductive TakeSource
  | console | follow | chase | timecode | trigger
deriving DecidableEq, Repr

/-- R56: the kind of a take. -/
inductive TakeKind
  | go | goto
deriving DecidableEq, Repr

/-- R131: the outcome of an accepted trigger action. -/
inductive TriggerOutcome
  | layerState (s : LayerState)
  | modeBefore (m : RigMode)
  | mask (before after : Nat)
deriving DecidableEq, Repr

/-- R73: the cause of a DOUSE notice. -/
inductive DouseCause
  | line | clear | rigReset
deriving DecidableEq, Repr

/-- R126: the cause of a BEAT_SOURCE notice. -/
inductive BeatCause
  | pulse | loss | force
deriving DecidableEq, Repr

/-- R164: the cause of a HEAD_CONDITION notice. -/
inductive ConditionCause
  | drift | misses | reply | motor | homingStart | homingDone | deadline | clear | unpatch
deriving DecidableEq, Repr

/-- R168: the nine notices, each with what its rule says it carries. -/
inductive Notice
  /-- R179 -/
  | start (result : StartResult) (revision : Nat) (pages : Option Nat) (latch line : Bool)
  /-- R56 -/
  | cueTaken (layer cue : Nat) (source : TakeSource) (kind : TakeKind)
  /-- R56, R131; the trigger line is present for source TRIGGER -/
  | takeFailed (layer : Nat) (source : TakeSource) (line : Option Nat) (status : Status)
      (cue : Option Nat)
  /-- R131 -/
  | triggerTaken (line : Nat) (action : Action) (outcome : TriggerOutcome)
  /-- R73 -/
  | douse (latch line : Bool) (cause : DouseCause)
  /-- R126 -/
  | beatSource (source : BeatSource) (setting : BeatSetting) (period intervals : Nat)
      (cause : BeatCause)
  /-- R128 -/
  | timecode (locked : Bool) (frame : Nat)
  /-- R164 -/
  | headCondition (head : Nat) (before after : Condition) (cause : ConditionCause)
      (strikes misses : Nat)
  /-- R164 -/
  | fault (head : Nat) (before after : Faults) (condition : Condition)
deriving DecidableEq, Repr

/-- R171, R172: the frame the transmit arbiter is sending; a notice carries the lost mark. -/
inductive Outgoing
  | reply (r : Reply)
  | notice (n : Notice) (lost : Bool)
deriving DecidableEq, Repr

/-- R167: the receive assembler with the bytes taken since the sync byte. -/
inductive Assembler
  | hunting
  | assembling (bytes : List Byte)
deriving DecidableEq, Repr

/-- What the console link owns. -/
structure Link where
  assembler : Assembler
  replies : List Reply
  inFlight : List Byte
  notices : List Notice
  lost : Bool
  sending : Option Outgoing
deriving DecidableEq, Repr

/-! ## The state -/

/-- The state of the block, owner by owner, with the queue of the commands that wait. `now` is the reading of
the rig time base at the last command. -/
structure State where
  now : Nat
  startUp : StartUp
  link : Link
  store : Store
  patch : Patch
  cues : Cues
  playback : Playback
  merge : Merge
  limiter : Limiter
  zones : Zones
  effects : Effects
  inputs : Inputs
  lines : Lines
  supervision : Supervision
  pending : List Instr
deriving DecidableEq, Repr

/-- R176: the store of a part that has never saved. -/
def Store.blank : Store where
  word := .never
  check := 0
  sum := 0
  image := none
  activity := .idle

/-- R135: the show inputs after a power-on reset. -/
def Inputs.powerOn : Inputs where
  beat :=
    { source := .internal, setting := .auto, period := 500000, history := [], previousPulse := none
      timer := 500000, missed := 0, subdivision := none }
  timecode := { locked := false, frame := 0, lockTimer := none, partialChars := [] }
  triggers := []
  floor := 0

/-- R179: every block at its power-on values, with the store as it was kept through power loss, the douse line
as first sampled, and the commands that wait. An empty table holds the power-on record for every number. -/
def State.powerOn (store : Store) (douseLine : Bool) (pending : List Instr) : State where
  now := 0
  startUp := .starting
  link :=
    { assembler := .hunting, replies := [], inFlight := [], notices := [], lost := false, sending := none }
  store := store
  patch := { personalities := [], heads := [], groups := [] }
  cues := { lists := [] }
  playback := { layers := [], takeStack := [], stepTimer := Config.stepUs }
  merge := { mask := 0, mode := .run, douseLatch := douseLine, douseLine := douseLine }
  limiter := { heads := [], stepTimer := Config.stepUs }
  zones := { zones := [], writeEnable := false }
  effects := { generators := [] }
  inputs := Inputs.powerOn
  lines := { lines := [] }
  supervision :=
    { heads := [], rehomeQueue := [], homingCount := 0, homingLimit := 4, pollTimer := Config.pollUs }
  pending := pending

/-- The machine right after a power-on reset of a part that has never saved, with the douse line deasserted
and no command waiting. -/
def State.reset : State :=
  State.powerOn Store.blank false []

end Sys2Proof.Machine
end

