-- ==== Sys2Proof/Machine/Ops.lean ====
section
/-! DEFINITION. The named operations the meanings are written over: the arithmetic of the rules, the accessors
of every table, time, notices, replies, and how a command and a request are taken. -/

namespace Sys2Proof.Machine

open Sys2Proof

/-! ## Arithmetic (00_scope, "Numbers and arithmetic") -/

/-- The value brought to the nearest end of `lo` to `hi`. -/
def clamp (lo hi : Nat) (v : Int) : Nat :=
  if v < lo then lo else if (hi : Int) < v then hi else v.toNat

/-- Whether `clamp` changes the value. -/
def clamps (lo hi : Nat) (v : Int) : Bool :=
  decide (v < lo) || decide ((hi : Int) < v)

/-- R61, R114: `v` scaled by the 16-bit factor `m`, rounded as the rules give it. -/
def scale (v m : Nat) : Nat :=
  (v * m + 32767) / 65535

/-- One bit after another of the integer square root, from bit `b - 1` down. -/
def isqrtFrom : Nat → Nat → Nat → Nat
  | 0, r, _ => r
  | b + 1, r, n => if (r + 2 ^ b) * (r + 2 ^ b) ≤ n then isqrtFrom b (r + 2 ^ b) n else isqrtFrom b r n

/-- The integer square root: the largest integer whose square does not exceed `n`. -/
def isqrt (n : Nat) : Nat :=
  isqrtFrom (n.log2 / 2 + 1) 0 n

/-- R38: from + trunc((to − from) × num / den), the product exact and the quotient truncated toward zero. -/
def fadeBetween (a b num den : Nat) : Nat :=
  ((a : Int) + Int.tdiv (((b : Int) - a) * num) den).toNat

/-- R116: p × 65,535 / r rounded half up. -/
def channelValue (p r : Nat) : Nat :=
  (2 * p * 65535 + r) / (2 * r)

/-- The velocity cut to magnitude `s`, its sign kept (R12, R88, R91). -/
def cutVelocity (s : Nat) (v : Int) : Int :=
  if (s : Int) < v then s else if v < -(s : Int) then -(s : Int) else v

/-- The sum of a list of numbers. -/
def total (l : List Nat) : Nat :=
  l.foldl (· + ·) 0

/-- Whole division rounded up. -/
def ceilDiv (a b : Nat) : Nat :=
  (a + b - 1) / b

/-- `x` put at its place in a list that ascends by `key`, over the element that has its key. -/
def putBy {α : Type} (key : α → Nat) (x : α) : List α → List α
  | [] => [x]
  | y :: ys =>
    if key x < key y then x :: y :: ys
    else if key x = key y then x :: ys
    else y :: putBy key x ys

/-! ## Accessors -/

def State.personality (s : State) (p : Nat) : Option Personality :=
  Table.get none s.patch.personalities p

def State.setPersonality (s : State) (p : Nat) (v : Personality) : State :=
  { s with patch.personalities := Table.put none s.patch.personalities p (some v) }

def State.headPatch (s : State) (h : Nat) : HeadPatch :=
  Table.get HeadPatch.unpatched s.patch.heads h

def State.setHeadPatch (s : State) (h : Nat) (v : HeadPatch) : State :=
  { s with patch.heads := Table.put HeadPatch.unpatched s.patch.heads h v }

/-- R6: where the head sits; absent when it is unpatched. -/
def State.placement (s : State) (h : Nat) : Option Placement :=
  (s.headPatch h).placement

/-- R6: whether the head is patched. -/
def State.patched (s : State) (h : Nat) : Bool :=
  (s.placement h).isSome

/-- The patched heads. In canonical form the list ascends by head id. -/
def State.patchedHeads (s : State) : List Nat :=
  (Table.keys s.patch.heads).filter s.patched

/-- The patched heads on a line. -/
def State.headsOn (s : State) (l : Nat) : List Nat :=
  s.patchedHeads.filter (fun h => (s.placement h).any (fun p => p.line == l))

/-- The personality of a patched head. -/
def State.personalityOf (s : State) (h : Nat) : Option Personality :=
  (s.placement h).bind (fun p => s.personality p.personality)

def State.group (s : State) (g : Nat) : BitVec 512 :=
  Table.get 0#512 s.patch.groups g

def State.setGroup (s : State) (g : Nat) (v : BitVec 512) : State :=
  { s with patch.groups := Table.put 0#512 s.patch.groups g v }

def State.list (s : State) (n : Nat) : Option CueList :=
  Table.get none s.cues.lists n

def State.setList (s : State) (n : Nat) (v : Option CueList) : State :=
  { s with cues.lists := Table.put none s.cues.lists n v }

def State.layer (s : State) (l : Nat) : Layer :=
  Table.get Layer.powerOn s.playback.layers l

def State.setLayer (s : State) (l : Nat) (v : Layer) : State :=
  { s with playback.layers := Table.put Layer.powerOn s.playback.layers l v }

def State.motion (s : State) (h : Nat) : Option Motion :=
  Table.get none s.limiter.heads h

def State.setMotion (s : State) (h : Nat) (v : Option Motion) : State :=
  { s with limiter.heads := Table.put none s.limiter.heads h v }

def State.zone (s : State) (z : Nat) : Zone :=
  Table.get Zone.cleared s.zones.zones z

def State.setZone (s : State) (z : Nat) (v : Zone) : State :=
  { s with zones.zones := Table.put Zone.cleared s.zones.zones z v }

def State.generator (s : State) (g : Nat) : Generator :=
  Table.get Generator.powerOn s.effects.generators g

def State.setGenerator (s : State) (g : Nat) (v : Generator) : State :=
  { s with effects.generators := Table.put Generator.powerOn s.effects.generators g v }

def State.trigger (s : State) (n : Nat) : Trigger :=
  Table.get Trigger.powerOn s.inputs.triggers n

def State.setTrigger (s : State) (n : Nat) (v : Trigger) : State :=
  { s with inputs.triggers := Table.put Trigger.powerOn s.inputs.triggers n v }

def State.setBeat (s : State) (b : Beat) : State :=
  { s with inputs.beat := b }

def State.line (s : State) (l : Nat) : Line :=
  Table.get Line.powerOn s.lines.lines l

def State.setLine (s : State) (l : Nat) (v : Line) : State :=
  { s with lines.lines := Table.put Line.powerOn s.lines.lines l v }

def State.watch (s : State) (h : Nat) : Watch :=
  Table.get Watch.unpatched s.supervision.heads h

def State.setWatch (s : State) (h : Nat) (v : Watch) : State :=
  { s with supervision.heads := Table.put Watch.unpatched s.supervision.heads h v }

/-- The twelve layers, ascending. -/
def layerIds : List Nat := List.range Config.layers

/-- The sixteen head lines, ascending. -/
def lineIds : List Nat := List.range Config.headLines

/-! ## Derived values -/

/-- R3: the highest slot offset a role entry occupies. -/
def RoleEntry.last (r : RoleEntry) : Nat :=
  match r.width with
  | .w8 => r.offset
  | .w16 => r.offset + 1

/-- R3: the highest occupied slot offset plus one. -/
def footprint (m : List RoleEntry) : Nat :=
  m.foldl (fun a r => max a (r.last + 1)) 0

/-- R8: the highest slot a patched head claims; 0 when unpatched. -/
def State.lastSlot (s : State) (h : Nat) : Nat :=
  match s.placement h, s.personalityOf h with
  | some p, some q => p.base + footprint q.channelMap - 1
  | _, _ => 0

/-- R9: the highest slot claimed by any patched head on the line, or 0. -/
def State.slotCount (s : State) (l : Nat) : Nat :=
  (s.headsOn l).foldl (fun a h => max a (s.lastSlot h)) 0

/-- The cues of every list. -/
def Cues.all (c : Cues) : List Cue :=
  c.lists.flatMap (fun e => match e.2 with
    | some l => l.cues
    | none => [])

/-- The entries of a list of cues, counted. -/
def entryCount (cs : List Cue) : Nat :=
  total (cs.map (fun c => c.entries.length))

/-- R21: free records of the cue pool. -/
def State.freeCues (s : State) : Nat :=
  Config.cuePool - s.cues.all.length

/-- R21: free entries of the entry pool. -/
def State.freeEntries (s : State) : Nat :=
  Config.entryPool - entryCount s.cues.all

/-- R37: fade slots held by all layers together. -/
def State.slotsHeld (s : State) : Nat :=
  total (layerIds.map (fun l => (s.layer l).slots.length))

/-- R37: free slots of the slot pool. -/
def State.freeSlots (s : State) : Nat :=
  Config.slotPool - s.slotsHeld

/-- R176: bytes of an image holding `cues` cues and `entries` head entries. -/
def imageBytes (cues entries : Nat) : Nat :=
  38720 + 16 * cues + 20 * entries

/-- R176: pages of 256 bytes, the last one partly filled. -/
def imagePages (bytes : Nat) : Nat :=
  ceilDiv bytes 256

/-- R176: the length of an image in bytes. -/
def Image.bytes (i : Image) : Nat :=
  let cs := Cues.all ⟨i.lists⟩
  imageBytes cs.length (entryCount cs)

/-- R176: the byte of an image at an address below its length. The rules print no layout of the image, nor what the bytes of the
check itself count as in its own sum, so the value is free (notes/assumptions/8.md). -/
opaque imageByte : Image → Nat → Byte

/-- R176: every byte of an image. -/
def Image.content (i : Image) : List Byte :=
  (List.range i.bytes).map (imageByte i)

/-- R176: the check of an image, the low 32 bits of the sum of its bytes. -/
def Image.check (i : Image) : BitVec 32 :=
  BitVec.ofNat 32 (total (i.content.map BitVec.toNat))

/-! ## Time -/

/-- The rig time base reads `t` when the command is taken; it never runs back. -/
def State.advance (s : State) (t : Nat) : State :=
  { s with now := max s.now t }

/-- The time a running timer has left. -/
def State.remaining (s : State) (deadline : Nat) : Nat :=
  deadline - s.now

/-! ## Notices and replies -/

/-- R172: hands a notice to the queue; at 64 it is discarded and the lost mark set. -/
def State.notify (s : State) (n : Notice) : State :=
  if s.link.notices.length < Config.noticeCapacity then
    { s with link.notices := s.link.notices ++ [n] }
  else
    { s with link.lost := true }

/-- R171: a reply joins the reply queue. -/
def State.enqueueReply (s : State) (r : Reply) : State :=
  { s with link.replies := s.link.replies ++ [r] }

/-- R171, R172: when the transmit arbiter is free it sends the oldest reply, or otherwise the oldest notice,
which carries the lost mark and clears it. A reply or notice leaves its queue as its frame starts, so a reply being
sent no longer counts among the immediate replies held (notes/assumptions/6.md). -/
def State.startTransmit (s : State) : State :=
  match s.link.sending, s.link.replies, s.link.notices with
  | some _, _, _ => s
  | none, r :: rs, _ => { s with link.sending := some (.reply r), link.replies := rs }
  | none, [], n :: ns =>
    { s with link.sending := some (.notice n s.link.lost), link.notices := ns, link.lost := false }
  | none, [], [] => s

/-- R169, R171: an immediate reply joins the queue, and the transmit arbiter looks at it. -/
def State.answered (s : State) (kind tag : Byte) (status : Status) (body : ReplyBody) : State :=
  (s.enqueueReply ⟨kind, tag, status, body, true⟩).startTransmit

/-- R170: a request is accepted and its reply deferred: its tag joins the in-flight set. -/
def State.deferredTag (s : State) (tag : Byte) : State :=
  { s with link.inFlight := s.link.inFlight ++ [tag] }

/-- R170, R171: a deferred reply is made, and its tag leaves the in-flight set. -/
def State.answerDeferred (s : State) (kind tag : Byte) (status : Status) (body : ReplyBody) : State :=
  { s with
    link.inFlight := s.link.inFlight.erase tag
    link.replies := s.link.replies ++ [⟨kind, tag, status, body, false⟩] }

/-- R168: the kind code of QUERY HEAD. -/
def kindQueryHead : Byte := 0x59#8
/-- R168: the kind code of SAVE. -/
def kindSave : Byte := 0x05#8
/-- R168: the kind code of LOAD. -/
def kindLoad : Byte := 0x06#8

/-- R149, R170: the deferred reply ABORTED of a console query. -/
def State.abortQuery (s : State) (tag : Byte) : State :=
  s.answerDeferred kindQueryHead tag .aborted .bare

/-! ## Commands and requests -/

/-- A command taken when the rig time base reads `t`: its effect, whole, and then the transmit arbiter. -/
def command (t : Nat) (effect : State → State) (s : State) : Host.Outcome State Fault Refusal :=
  .next (effect (s.advance t)).startTransmit

/-- What an owner answers to a request: a reply at once, or a deferred reply (R169). -/
inductive Answer
  | reply (status : Status) (body : ReplyBody)
  | deferred
deriving DecidableEq, Repr

/-- The owner of a request: what it does, given the request's tag. -/
abbrev Owner := Byte → State → State × Answer

/-- A refusal with its status byte alone, the owner's state left as it was. -/
def refuse (status : Status) (s : State) : State × Answer :=
  (s, .reply status .bare)

/-- An acceptance: the state after it and the reply's fields. -/
def accept (s : State) (body : ReplyBody) : State × Answer :=
  (s, .reply .ok body)

/-- The status of an accepted request that clamps (00_scope, "Replies and status codes"). -/
def okOrClamped (clamped : Bool) : Status :=
  if clamped then .clamped else .ok

/-- R171: the immediate replies held. -/
def State.immediateHeld (s : State) : Nat :=
  (s.link.replies.filter (fun r => r.immediate)).length

/-- R169: the owner applies its rule, and its outcome becomes an immediate reply or, deferred, its tag joins the
in-flight set (R170). -/
def State.serve (s : State) (tag kind : Byte) (own : Owner) : State :=
  match own tag s with
  | (s', .reply status body) => s'.enqueueReply ⟨kind, tag, status, body, true⟩
  | (s', .deferred) => s'.deferredTag tag

/-- R169: the checks of a request whose kind is known and whose body fits (checks 1, 4 and 5), and then its
owner. Only IDENTIFY passes check 4 while STARTING. -/
def State.handle (s : State) (tag kind : Byte) (always : Bool) (own : Owner) : State :=
  if Config.immediateReplies ≤ s.immediateHeld then s
  else if s.startUp = .starting ∧ ¬ always then
    s.enqueueReply ⟨kind, tag, .starting, .bare, true⟩
  else if tag ∈ s.link.inFlight then
    s.enqueueReply ⟨kind, tag, .tagBusy, .bare, true⟩
  else s.serve tag kind own

/-- A request row of the table: a request frame of this kind whose body fits, taken when the rig time base
reads `t`. -/
def request (t : Nat) (tag kind : Byte) (own : Owner) (s : State) : Host.Outcome State Fault Refusal :=
  command t (fun u => u.handle tag kind false own) s

end Sys2Proof.Machine
end

