-- ==== Sys2Proof/Machine/Flags.lean ====
section
/-! DEFINITION. The yes-or-no conditions that the rules of several blocks read. -/

namespace Sys2Proof.Machine

open Sys2Proof

/-- R176: a SAVE or a LOAD is in flight. -/
def State.storeBusy (s : State) : Bool :=
  match s.store.activity with
  | .idle => false
  | .saving _ _ => true
  | .loading _ => true

/-- R178: a LOAD is in flight. -/
def State.loading (s : State) : Bool :=
  match s.store.activity with
  | .loading _ => true
  | .idle => false
  | .saving _ _ => false

/-- R176: the image state. -/
def Store.imageState (st : Store) : ImageState :=
  match st.word with
  | .never => .empty
  | .writing => .invalid
  | .written => if st.image.isSome && decide (st.sum = st.check) then .valid else .invalid

/-- R65, R66: show time runs in RUN and PARK and stands still in HOLD. -/
def State.showTime (s : State) : Bool :=
  match s.merge.mode with
  | .run => true
  | .park => true
  | .hold => false

/-- R37: a slot is complete when its elapsed time equals its delay and fade together. -/
def Slot.complete (x : Slot) : Bool :=
  x.elapsedMs == x.delayMs + x.fadeMs

/-- R143: the line takes entries: it is enabled and its queue holds fewer than 8. -/
def Line.accepts (l : Line) : Bool :=
  l.settings.enabled && decide (l.queue.length < Config.queryQueue)

/-- R154: the line reports an entry for the head already queued. -/
def Line.hasEntry (l : Line) (h : Nat) : Bool :=
  l.queue.any (fun e => e.head == h)

/-- R141: the effective priority of the queue. -/
def Line.priority (l : Line) : Priority :=
  if l.queue.any (fun e => e.priority == .urgent) then .urgent else .routine

/-- R141: the threshold of the wait counter. -/
def Line.threshold (l : Line) : Nat :=
  match l.priority with
  | .urgent => 1
  | .routine => l.settings.maxWait

/-- R139: the refresh is claimed: due, or its timer running with less than the exchange limit left. -/
def Line.claimed (l : Line) (now : Nat) : Bool :=
  l.refreshDue || l.refreshTimer.any (fun d => decide (d - now < Config.exchangeLimitUs))

/-- R10, R152: a re-home of the head is in progress: its condition is HOMING, or a HOME query for it is queued or in
exchange on its line. -/
def State.rehomeInProgress (s : State) (h : Nat) : Bool :=
  (s.watch h).condition == .homing ||
    (s.placement h).any (fun p =>
      (s.line p.line).queue.any (fun e => e.head == h && e.kind == .home) ||
        match (s.line p.line).turn with
        | .exchange x => x.entry.head == h && x.entry.kind == .home
        | .idle => false
        | .frame _ => false)

/-- R169: the request would pass the link's checks 1, 4 and 5. -/
def State.admits (s : State) (tag : Byte) : Bool :=
  decide (s.immediateHeld < Config.immediateReplies) && decide (s.startUp ≠ .starting)
    && !decide (tag ∈ s.link.inFlight)

end Sys2Proof.Machine
end

