-- ==== Sys2Proof/Machine/Merge.lean ====
section
/-! DEFINITION. The value of a fade slot (R38), the merged target (R58 to R62), the mask, the rig mode and the
douse latch (R64 to R75). -/

namespace Sys2Proof.Machine

open Sys2Proof

/-! ## Values -/

/-- The number of a scalar value. A PAN, TILT or INTENSITY value is scalar in every state a run reaches. -/
def Val.num : Val → Nat
  | .scalar n => n
  | .triple c => c.red

/-- R60: open white. -/
def openWhite : Colour := ⟨Config.full, Config.full, Config.full⟩

/-- The triple of a COLOUR value. -/
def Val.rgb : Val → Colour
  | .triple c => c
  | .scalar n => ⟨n, n, n⟩

/-- R38: the faded value; a COLOUR is faded component by component. -/
def Val.fade (a b : Val) (num den : Nat) : Val :=
  match a, b with
  | .scalar x, .scalar y => .scalar (fadeBetween x y num den)
  | .triple x, .triple y =>
    .triple ⟨fadeBetween x.red y.red num den, fadeBetween x.green y.green num den,
      fadeBetween x.blue y.blue num den⟩
  | .scalar _, .triple _ => b
  | .triple _, .scalar _ => b

/-- R38: the value of a fade slot as it is read, in every rig mode. Where R67 has a slot hold its from value in HOLD and R38 gives
its to value at once, its delay and its fade being 0, the model's choice is R38 (notes/assumptions/33.md). -/
def Slot.value (x : Slot) : Val :=
  if x.elapsedMs < x.delayMs then x.fromVal
  else if x.fadeMs = 0 ∨ x.fadeMs ≤ x.elapsedMs - x.delayMs then x.toVal
  else x.fromVal.fade x.toVal (x.elapsedMs - x.delayMs) x.fadeMs

/-- The slot a table holds for a head and an attribute. -/
def slotFor (slots : List Slot) (h : Nat) (a : Attr) : Option Slot :=
  slots.find? (fun x => x.head == h && x.attr == a)

/-! ## The merged target -/

/-- A layer contributing to an attribute of a head, with its slot's current value. -/
structure Contribution where
  layer : Nat
  precedence : Nat
  value : Val
  master : Nat
  intensityMode : IntensityMode
deriving DecidableEq, Repr

/-- R61: the slot's value scaled by the layer's master. -/
def Contribution.scaled (c : Contribution) : Nat :=
  scale c.value.num c.master

/-- R59: what a layer contributes: its state is not IDLE, it holds a slot, and its precedence is above the mask. -/
def State.contribution (s : State) (h : Nat) (a : Attr) (l : Nat) : Option Contribution :=
  let y := s.layer l
  if y.state = .idle ∨ y.settings.precedence ≤ s.merge.mask then none
  else (slotFor y.slots h a).map (fun x =>
    ⟨l, y.settings.precedence, x.value, y.settings.master, y.settings.intensityMode⟩)

/-- R59: the contributing layers in take-stack order, bottom first. -/
def State.contributing (s : State) (h : Nat) (a : Attr) : List Contribution :=
  s.playback.takeStack.filterMap (s.contribution h a)

/-- R59: the highest precedence among the contributing layers. -/
def topPrecedence (cs : List Contribution) : Nat :=
  cs.foldl (fun p c => max p c.precedence) 0

/-- R59: the candidates, bottom first. -/
def candidates (cs : List Contribution) : List Contribution :=
  cs.filter (fun c => c.precedence == topPrecedence cs)

/-- R60: the default of PAN, TILT and COLOUR, and of INTENSITY (R61). -/
def State.defaultTarget (s : State) (h : Nat) : Attr → Val
  | .pan => .scalar (s.headPatch h).homePan
  | .tilt => .scalar (s.headPatch h).homeTilt
  | .intensity => .scalar 0
  | .colour => .triple openWhite

/-- R61: the HIGHEST part. -/
def highestPart (cands : List Contribution) : Nat :=
  (cands.filter (fun c => c.intensityMode == .highest)).foldl (fun m c => max m c.scaled) 0

/-- R61: the LATEST part. -/
def latestPart (cands : List Contribution) : Nat :=
  match (cands.filter (fun c => c.intensityMode == .latest)).getLast? with
  | some c => c.scaled
  | none => 0

/-- R61: the merged intensity. -/
def mergedIntensity (cands : List Contribution) : Nat :=
  max (highestPart cands) (latestPart cands)

/-- R60: the value of the candidate latest in the take stack, or the default. -/
def latestValue (cands : List Contribution) (default : Val) : Val :=
  match cands.getLast? with
  | some c => c.value
  | none => default

/-- R58: the merged target of an attribute of a head. -/
def State.mergedTarget (s : State) (h : Nat) (a : Attr) : Val :=
  let cands := candidates (s.contributing h a)
  match a with
  | .intensity => .scalar (mergedIntensity cands)
  | .pan => latestValue cands (s.defaultTarget h .pan)
  | .tilt => latestValue cands (s.defaultTarget h .tilt)
  | .colour => latestValue cands (s.defaultTarget h .colour)

/-! ## The contribution report (R62) -/

/-- R62: the deciding layer. -/
def decidingLayer (a : Attr) (cands : List Contribution) : Option Nat :=
  let deciding : List Contribution := match a with
    | .intensity => cands.filter (fun c => c.scaled == mergedIntensity cands)
    | .pan => cands
    | .tilt => cands
    | .colour => cands
  deciding.getLast?.map (fun c => c.layer)

/-- R62: one contributing layer as READ HEAD shows it. -/
def Contribution.report (a : Attr) (cands : List Contribution) (c : Contribution) : ContribReport where
  layer := c.layer
  precedence := c.precedence
  value := c.value
  scaled := if a = .intensity then some c.scaled else none
  intensityMode := if a = .intensity then some c.intensityMode else none
  candidate := cands.any (fun d => d.layer == c.layer)

/-- R62: the contribution report. -/
def State.mergeReport (s : State) (h : Nat) (a : Attr) : MergeReport :=
  let cs := s.contributing h a
  let cands := candidates cs
  { target := s.mergedTarget h a
    decidedBy := decidingLayer a cands
    layers := cs.map (Contribution.report a cands) }

/-! ## Mask, mode and douse -/

/-- R64: the mask level set to a value clamped into 0 to 15. -/
def State.withMask (s : State) (v : Int) : State :=
  { s with merge.mask := clamp 0 15 v }

/-- R65: the rig mode set. -/
def State.withMode (s : State) (m : RigMode) : State :=
  { s with merge.mode := m }

/-- R73: the latch set to a value, with a DOUSE notice when it changes. -/
def State.setDouseLatch (s : State) (v : Bool) (cause : DouseCause) : State :=
  if s.merge.douseLatch = v then s
  else ({ s with merge.douseLatch := v }).notify (.douse v s.merge.douseLine cause)

/-- SET MASK (R64). -/
def ownSetMask (v : Int) : Owner := fun _ s =>
  let s' := s.withMask v
  (s', .reply (okOrClamped (clamps 0 15 v)) (.mask s.merge.mask s'.merge.mask))

/-- HOLD, PARK and RUN (R65). -/
def ownMode (m : RigMode) : Owner := fun _ s =>
  accept (s.withMode m) (.modeBefore s.merge.mode)

/-- CLEAR DOUSE (R71). -/
def ownClearDouse : Owner := fun _ s =>
  if s.merge.douseLine then (s, .reply .wrongState (.douse true s.merge.douseLatch))
  else
    let s' := s.setDouseLatch false .clear
    accept s' (.douse s'.merge.douseLine s'.merge.douseLatch)

/-- SET_MASK (R64). -/
def execSetMask (t : Nat) (tag : Byte) (value : Int) (s : State) : Host.Outcome State Fault Refusal :=
  request t tag 0x40#8 (ownSetMask value) s

/-- HOLD (R65, R66, R67). -/
def execHold (t : Nat) (tag : Byte) (s : State) : Host.Outcome State Fault Refusal :=
  request t tag 0x41#8 (ownMode .hold) s

/-- PARK (R65, R68). -/
def execPark (t : Nat) (tag : Byte) (s : State) : Host.Outcome State Fault Refusal :=
  request t tag 0x42#8 (ownMode .park) s

/-- RUN (R65, R69). -/
def execRun (t : Nat) (tag : Byte) (s : State) : Host.Outcome State Fault Refusal :=
  request t tag 0x43#8 (ownMode .run) s

/-- CLEAR_DOUSE (R71). -/
def execClearDouse (t : Nat) (tag : Byte) (s : State) : Host.Outcome State Fault Refusal :=
  request t tag 0x44#8 ownClearDouse s

/-- R70: the douse line asserts and the latch is set. -/
def State.assertDouse (s : State) : State :=
  ({ s with merge.douseLine := true }).setDouseLatch true .line

/-- DOUSE_ASSERT (R70). -/
def execDouseAssert (t : Nat) (s : State) : Host.Outcome State Fault Refusal :=
  command t State.assertDouse s

/-- DOUSE_DEASSERT (R70). -/
def execDouseDeassert (t : Nat) (s : State) : Host.Outcome State Fault Refusal :=
  command t (fun u => { u with merge.douseLine := false }) s

end Sys2Proof.Machine
end

