-- ==== Sys2Proof/Machine/Limiter.lean ====
section
/-! DEFINITION. The motion limiter (05): the target of an axis (R79), one axis in one step (R80 to R83), the settle
timer (R84), the limiter step (R78), and the creation and adjustment of the state (R77, R87, R88, R91). -/

namespace Sys2Proof.Machine

open Sys2Proof

/-- The two axes of a head. -/
inductive AxisName
  | pan | tilt
deriving DecidableEq, Repr

/-- R76: the range of an axis. -/
def Personality.range (q : Personality) : AxisName → Nat
  | .pan => q.panRange
  | .tilt => q.tiltRange

/-- R79: the target of an axis before clamping. -/
def State.rawTarget (s : State) (h : Nat) (a : AxisName) : Nat :=
  match s.merge.mode, a with
  | .park, .pan => (s.headPatch h).parkPan
  | .park, .tilt => (s.headPatch h).parkTilt
  | .run, .pan => (s.mergedTarget h .pan).num
  | .run, .tilt => (s.mergedTarget h .tilt).num
  | .hold, .pan => (s.mergedTarget h .pan).num
  | .hold, .tilt => (s.mergedTarget h .tilt).num

/-- R79: the target of an axis, clamped into 0 to the range. -/
def State.axisTarget (s : State) (h : Nat) (q : Personality) (a : AxisName) : Nat :=
  min (s.rawTarget h a) (q.range a)

/-- R80: the braking bound. -/
def brakingBound (accel : Nat) (d : Int) : Nat :=
  isqrt (2 * accel * d.natAbs)

/-- R80: the wanted velocity. -/
def wantedVelocity (speed accel : Nat) (d : Int) : Int :=
  if 0 < d then (min speed (brakingBound accel d) : Nat)
  else if d < 0 then -((min speed (brakingBound accel d) : Nat) : Int)
  else 0

/-- R81: the velocity moved toward `w` by at most `accel`. -/
def nextVelocity (accel : Nat) (v w : Int) : Int :=
  if (accel : Int) < w - v then v + accel
  else if w - v < -(accel : Int) then v - accel
  else w

/-- R82: the head has reached or passed its target: T − p' is 0 or has the opposite sign to d. -/
def arrives (d d' : Int) : Bool :=
  (decide (0 < d) && decide (d' ≤ 0)) || (decide (d < 0) && decide (0 ≤ d'))

/-- R80 to R83: one axis in one limiter step. -/
def stepAxis (speed accel range target : Nat) (x : Axis) : Axis :=
  let d : Int := (target : Int) - x.position
  if d = 0 ∧ x.velocity = 0 then x
  else
    let v := nextVelocity accel x.velocity (wantedVelocity speed accel d)
    let p : Int := (x.position : Int) + v
    if arrives d ((target : Int) - p) then ⟨target, 0⟩
    else if p < 0 then ⟨0, 0⟩
    else if (range : Int) < p then ⟨range, 0⟩
    else ⟨p.toNat, v⟩

/-- R84: the settle timer after the axes have been stepped. -/
def nextSettle (settle : Nat) (pan tilt : Axis) : Nat :=
  if pan.velocity = 0 ∧ tilt.velocity = 0 then min (settle + Config.stepMs) Config.settledMs else 0

/-- R78: the step of one patched head. -/
def State.stepHead (s : State) (h : Nat) (q : Personality) (m : Motion) : Motion :=
  let c := s.headPatch h
  let pan := stepAxis c.maxSpeed c.maxAccel q.panRange (s.axisTarget h q .pan) m.pan
  let tilt := stepAxis c.maxSpeed c.maxAccel q.tiltRange (s.axisTarget h q .tilt) m.tilt
  ⟨pan, tilt, nextSettle m.settle pan tilt⟩

/-- R78: what the limiter step leaves of a head. -/
def State.steppedMotion (s : State) (h : Nat) : Option Motion :=
  match s.personalityOf h, s.motion h with
  | some q, some m => some (s.stepHead h q m)
  | _, _ => s.motion h

/-- R78: every patched head is stepped, each from the state at the expiry; the step timer runs on. -/
def State.limiterStep (s : State) : State :=
  { s with
    limiter.heads :=
      s.patchedHeads.foldl (fun m h => Table.put none m h (s.steppedMotion h)) s.limiter.heads
    limiter.stepTimer := s.now + Config.stepUs }

/-- LIMITER_STEP (R78). -/
def execLimiterStep (t : Nat) (s : State) : Host.Outcome State Fault Refusal :=
  command t State.limiterStep s

/-! ## Changes between steps -/

/-- R77: fresh state at a position. -/
def Motion.fresh (pan tilt : Nat) : Motion :=
  ⟨⟨pan, 0⟩, ⟨tilt, 0⟩, 0⟩

/-- R87: the velocities cut to a new max speed. -/
def Motion.cut (speed : Nat) (m : Motion) : Motion :=
  { m with
    pan.velocity := cutVelocity speed m.pan.velocity
    tilt.velocity := cutVelocity speed m.tilt.velocity }

/-- R88: an axis adjusted to a new range and max speed. -/
def Axis.rebase (range speed : Nat) (x : Axis) : Axis :=
  if range < x.position then ⟨range, 0⟩ else ⟨x.position, cutVelocity speed x.velocity⟩

/-- R88: the state adjusted by a re-patch. -/
def Motion.rebase (q : Personality) (speed : Nat) (m : Motion) : Motion :=
  { m with pan := m.pan.rebase q.panRange speed, tilt := m.tilt.rebase q.tiltRange speed }

/-- R10: whether a re-patch clamps a limiter position. -/
def Motion.clampedBy (q : Personality) (m : Motion) : Bool :=
  decide (q.panRange < m.pan.position) || decide (q.tiltRange < m.tilt.position)

/-- R91: both ranges of a personality. -/
def Personality.ranges (q : Personality) : Nat × Nat :=
  (q.panRange, q.tiltRange)

/-- R91: the ranges of a head's personality changed, or its personality id. -/
def personalityChanged (before after : State) (h : Nat) : Bool :=
  !decide ((before.placement h).map Placement.personality = (after.placement h).map Placement.personality)
    || !decide ((before.personalityOf h).map Personality.ranges = (after.personalityOf h).map Personality.ranges)

/-- R91: a head's limiter state after its tables were replaced. -/
def loadedMotion (before after : State) (h : Nat) : Option Motion :=
  let c := after.headPatch h
  if !after.patched h then none
  else if !before.patched h then some (Motion.fresh c.homePan c.homeTilt)
  else if personalityChanged before after h then some (Motion.fresh c.homePan c.homeTilt)
  else (before.motion h).map (Motion.cut c.maxSpeed)

/-- R91: the limiter's state of every head after a LOAD replaced the tables of `before`. -/
def State.loadMotion (before after : State) : State :=
  { after with
    limiter.heads :=
      after.patchedHeads.foldl (fun m h => Table.put none m h (loadedMotion before after h)) [] }

/-- R76: the limiter's part of READ HEAD. -/
def State.motionReport (s : State) (h : Nat) : Option MotionReport :=
  match s.personalityOf h, s.motion h with
  | some q, some m =>
    some ⟨⟨m.pan.position, m.pan.velocity, s.axisTarget h q .pan⟩,
      ⟨m.tilt.position, m.tilt.velocity, s.axisTarget h q .tilt⟩, m.settle⟩
  | _, _ => none

end Sys2Proof.Machine
end

