-- ==== Sys2Proof/Machine/ZoneTable.lean ====
section
/-! DEFINITION. The no-aim zones (06): the in-zone test (R94), the zone write enable (R97, R98) and the zone
requests (R99 to R102). -/

namespace Sys2Proof.Machine

open Sys2Proof

/-- R94: a position lies in a zone's rectangle, all four ends included. -/
def Zone.contains (z : Zone) (pan tilt : Nat) : Bool :=
  decide (z.panMin ≤ pan ∧ pan ≤ z.panMax) && decide (z.tiltMin ≤ tilt ∧ tilt ≤ z.tiltMax)

/-- R94: the head is in zone `z`: the zone is active, the head is a member of its group and patched, and its
limiter position lies in the rectangle. -/
def State.inZone (s : State) (h z : Nat) : Bool :=
  (s.zone z).active && (s.group (s.zone z).group).getLsbD h && s.patched h &&
    (s.motion h).any (fun m => (s.zone z).contains m.pan.position m.tilt.position)

/-- R103: the zones the head is in, ascending. -/
def State.zonesOf (s : State) (h : Nat) : List Nat :=
  (List.range Config.zones).filter (s.inZone h)

/-- R97: the latch set or cleared. -/
def State.withZoneWrite (s : State) (v : Bool) : State :=
  { s with zones.writeEnable := v }

/-- ENABLE ZONE WRITE (R98). -/
def ownEnableZoneWrite : Owner := fun _ s =>
  accept (s.withZoneWrite true) (.zoneLatch s.zones.writeEnable)

/-- R100: the record a SET ZONE stores, each bound clamped into 0 to 72,000. -/
def zoneRecord (z : ZoneReq) (active : Bool) : Zone where
  active := active
  group := z.group
  panMin := clamp 0 Config.maxAngle z.panMin.toNat
  panMax := clamp 0 Config.maxAngle z.panMax.toNat
  tiltMin := clamp 0 Config.maxAngle z.tiltMin.toNat
  tiltMax := clamp 0 Config.maxAngle z.tiltMax.toNat

/-- R100: whether a bound is clamped. -/
def zoneClamps (z : ZoneReq) : Bool :=
  clamps 0 Config.maxAngle z.panMin.toNat || clamps 0 Config.maxAngle z.panMax.toNat
    || clamps 0 Config.maxAngle z.tiltMin.toNat || clamps 0 Config.maxAngle z.tiltMax.toNat

/-- R99: the first check of SET ZONE that fails. -/
def State.checkSetZone (s : State) (z : ZoneReq) : Option Status :=
  if ¬ s.zones.writeEnable then some .zoneLocked
  else if s.storeBusy then some .storeBusy
  else if Config.zones ≤ z.zone ∨ Config.groups ≤ z.group ∨ z.active = none then some .badField
  else if z.panMax < z.panMin ∨ z.tiltMax < z.tiltMin then some .badField
  else none

/-- SET ZONE (R99, R100): the latch is cleared whichever check fails. -/
def ownSetZone (z : ZoneReq) : Owner := fun _ s =>
  match s.checkSetZone z with
  | some status => (s.withZoneWrite false, .reply status (.zoneLatch false))
  | none =>
    let r := zoneRecord z (z.active == some true)
    ((s.setZone z.zone r).withZoneWrite false, .reply (okOrClamped (zoneClamps z)) (.zone r false))

/-- R101: the first check of CLEAR ZONE that fails. -/
def State.checkClearZone (s : State) (z : Nat) : Option Status :=
  if ¬ s.zones.writeEnable then some .zoneLocked
  else if s.storeBusy then some .storeBusy
  else if Config.zones ≤ z then some .badField
  else none

/-- CLEAR ZONE (R101): the latch is cleared whichever check fails. -/
def ownClearZone (z : Nat) : Owner := fun _ s =>
  match s.checkClearZone z with
  | some status => (s.withZoneWrite false, .reply status (.zoneLatch false))
  | none => accept ((s.setZone z Zone.cleared).withZoneWrite false) (.zoneLatch false)

/-- READ ZONE (R102). -/
def ownReadZone (z : Nat) : Owner := fun _ s =>
  if Config.zones ≤ z then refuse .badField s
  else accept s (.zone (s.zone z) s.zones.writeEnable)

/-- ENABLE_ZONE_WRITE (R98). -/
def execEnableZoneWrite (t : Nat) (tag : Byte) (s : State) : Host.Outcome State Fault Refusal :=
  request t tag 0x48#8 ownEnableZoneWrite s

/-- SET_ZONE (R99, R100). -/
def execSetZone (t : Nat) (tag : Byte) (z : ZoneReq) (s : State) : Host.Outcome State Fault Refusal :=
  request t tag 0x49#8 (ownSetZone z) s

/-- CLEAR_ZONE (R101). -/
def execClearZone (t : Nat) (tag : Byte) (zone : Nat) (s : State) : Host.Outcome State Fault Refusal :=
  request t tag 0x4A#8 (ownClearZone zone) s

/-- READ_ZONE (R102). -/
def execReadZone (t : Nat) (tag : Byte) (zone : Nat) (s : State) : Host.Outcome State Fault Refusal :=
  request t tag 0x4B#8 (ownReadZone zone) s

end Sys2Proof.Machine
end

