-- ==== Sys2Proof/Machine/Encoder.lean ====
section
/-! DEFINITION. The encoder (07): forcing (R106), output intensity (R107), the blink result (R112), colour conversion
(R113, R114), the slots (R115, R116) and the frame build (R105). It keeps no state. -/

namespace Sys2Proof.Machine

open Sys2Proof

/-- R106, R117: the forcing conditions that hold for a head. -/
def State.forcing (s : State) (h : Nat) : List Forcing :=
  (if s.merge.douseLatch then [.douse] else [])
    ++ (if s.merge.mode = .park then [.park] else [])
    ++ (if (s.watch h).condition = .homing then [.homing] else [])
    ++ (if (s.watch h).condition = .faulted then [.faulted] else [])
    ++ (if (s.zonesOf h).isEmpty then [] else [.zone])

/-- R106: the head is forced dark. -/
def State.forcedDark (s : State) (h : Nat) : Bool :=
  !(s.forcing h).isEmpty

/-- R112: the head's generator stands in phase OFF. -/
def State.blinkOff (s : State) (h : Nat) : Bool :=
  (s.headPatch h).blinkGenerator.any (fun g => !(s.generator g).on)

/-- R112: blink takes the intensity to 0. -/
def State.blinksIntensity (s : State) (h : Nat) : Bool :=
  s.blinkOff h && decide ((s.headPatch h).blinkMask ≠ .colour)

/-- R112: blink replaces the colour. -/
def State.blinksColour (s : State) (h : Nat) : Bool :=
  s.blinkOff h && decide ((s.headPatch h).blinkMask ≠ .intensity)

/-- R107: the output intensity. -/
def State.outputIntensity (s : State) (h : Nat) : Nat :=
  if s.forcedDark h then 0
  else if s.blinksIntensity h then 0
  else (s.mergedTarget h .intensity).num

/-- R107: the shutter value. -/
def State.shutter (s : State) (h : Nat) (q : Personality) : Byte :=
  if s.forcedDark h then q.shutterClosed else q.shutterOpen

/-- R112: the colour after blink. -/
def State.colourAfterBlink (s : State) (h : Nat) : Colour :=
  if s.blinksColour h then (s.headPatch h).altColour else (s.mergedTarget h .colour).rgb

/-- R113: the colour values of a colour system, in gain order. -/
def convertColour (sys : ColourSystem) (c : Colour) : List Nat :=
  match sys with
  | .additiveRgb => [c.red, c.green, c.blue]
  | .additiveRgbw =>
    let w := min c.red (min c.green c.blue)
    [c.red - w, c.green - w, c.blue - w, w]
  | .subtractiveCmy => [Config.full - c.red, Config.full - c.green, Config.full - c.blue]

/-- R4: the map holds a DIMMER. -/
def Personality.hasDimmer (q : Personality) : Bool :=
  q.channelMap.any (fun r => r.role == .dimmer)

/-- R114: an additive personality without a DIMMER scales its emitters by the output intensity. -/
def Personality.scalesEmitters (q : Personality) : Bool :=
  !q.hasDimmer && decide (q.system ≠ .subtractiveCmy)

/-- R114: the emitter or flag values, in gain order. -/
def emitterValues (q : Personality) (c : Colour) (intensity : Nat) : List Nat :=
  (List.zipWith scale (convertColour q.system c) q.gains).map
    (fun e => if q.scalesEmitters then scale e intensity else e)

/-- R116: a channel value after inversion. -/
def sentValue (p r : Nat) (invert : Bool) : Nat :=
  if invert then Config.full - channelValue p r else channelValue p r

/-- What a frame build gives of a head before its slots are placed (R117). -/
structure HeadOutput where
  intensity : Nat
  shutter : Byte
  emitters : List Nat
  pan : Nat
  tilt : Nat
deriving DecidableEq, Repr

/-- R105: what a frame build computes of a patched head. -/
def State.output (s : State) (h : Nat) (q : Personality) (m : Motion) : HeadOutput where
  intensity := s.outputIntensity h
  shutter := s.shutter h q
  emitters := emitterValues q (s.colourAfterBlink h) (s.outputIntensity h)
  pan := sentValue m.pan.position q.panRange (s.headPatch h).panInvert
  tilt := sentValue m.tilt.position q.tiltRange (s.headPatch h).tiltInvert

/-- The value of a role: a channel unit, or a value of 8 bits that is placed as it is (R115). -/
inductive RoleValue
  | unit (v : Nat)
  | byte (v : Byte)
deriving DecidableEq, Repr

/-- R115: the value a role carries. -/
def HeadOutput.role (o : HeadOutput) (r : RoleEntry) : RoleValue :=
  match r.role with
  | .pan => .unit o.pan
  | .tilt => .unit o.tilt
  | .dimmer => .unit o.intensity
  | .shutter => .byte o.shutter
  | .emitter1 => .unit (o.emitters.getD 0 0)
  | .emitter2 => .unit (o.emitters.getD 1 0)
  | .emitter3 => .unit (o.emitters.getD 2 0)
  | .emitter4 => .unit (o.emitters.getD 3 0)
  | .cyan => .unit (o.emitters.getD 0 0)
  | .magenta => .unit (o.emitters.getD 1 0)
  | .yellow => .unit (o.emitters.getD 2 0)
  | .control =>
    match r.width with
    | .w8 => .byte (BitVec.ofNat 8 r.fixed)
    | .w16 => .unit r.fixed

/-- R115: the slots a role fills, for a head at a base slot. -/
def placeRole (base : Nat) (r : RoleEntry) (v : RoleValue) : List (Nat × Byte) :=
  match v, r.width with
  | .byte b, _ => [(base + r.offset, b)]
  | .unit u, .w8 => [(base + r.offset, BitVec.ofNat 8 (u / 256))]
  | .unit u, .w16 =>
    [(base + r.offset, BitVec.ofNat 8 (u / 256)), (base + r.offset + 1, BitVec.ofNat 8 (u % 256))]

/-- R115: the slots a head fills; slots of its footprint that no role occupies are left to carry 0. -/
def State.headSlots (s : State) (h : Nat) : List (Nat × Byte) :=
  match s.placement h, s.personalityOf h, s.motion h with
  | some p, some q, some m =>
    q.channelMap.flatMap (fun r => placeRole p.base r ((s.output h q m).role r))
  | _, _, _ => []

/-- R105: the slots 1 to the slot count; a slot that nothing fills carries 0. -/
def State.frameSlots (s : State) (l : Nat) : List Byte :=
  let filled := (s.headsOn l).flatMap s.headSlots
  (List.range (s.slotCount l)).map (fun k =>
    match filled.find? (fun e => e.1 == k + 1) with
    | some e => e.2
    | none => 0#8)

/-- R105, R142: the pan and tilt channel values handed to the line. -/
def State.frameSnapshot (s : State) (l : Nat) : List LastSent :=
  (s.headsOn l).filterMap (fun h =>
    match s.personalityOf h, s.motion h with
    | some q, some m => some ⟨h, (s.output h q m).pan, (s.output h q m).tilt⟩
    | _, _ => none)

/-- R117: the encoder's part of READ HEAD. That a personality without a SHUTTER role is reported with the shutter value it would carry
is this model's choice (notes/assumptions/31.md). -/
def State.outputReport (s : State) (h : Nat) : Option OutputReport :=
  match s.personalityOf h, s.motion h with
  | some q, some m =>
    let o := s.output h q m
    some {
      intensity := o.intensity
      forcing := s.forcing h
      blink :=
        { generator := (s.headPatch h).blinkGenerator
          phaseOn := (s.headPatch h).blinkGenerator.map (fun g => (s.generator g).on)
          mask := (s.headPatch h).blinkMask
          tookIntensity := s.blinksIntensity h
          replacedColour := s.blinksColour h }
      colour := s.colourAfterBlink h
      emitters := o.emitters
      panValue := o.pan
      tiltValue := o.tilt
      shutter := o.shutter }
  | _, _ => none

end Sys2Proof.Machine
end

