-- ==== Sys2Proof/Machine/BlinkGenerators.lean ====
section
/-! DEFINITION. The effects block (07): quarter-beat events (R109) and the two forms of SET BLINK (R110, R111). -/

namespace Sys2Proof.Machine

open Sys2Proof

/-- R109: the phase toggles and the count returns to 0. -/
def Generator.toggle (g : Generator) : Generator :=
  { g with on := !g.on, count := 0 }

/-- R109: the generator runs and its next quarter-beat brings its count to its rate. -/
def Generator.toggles (g : Generator) : Bool :=
  g.running && decide (g.rate ≤ g.count + 1)

/-- R109: a quarter-beat event counted by a running generator. -/
def Generator.quarter (g : Generator) : Generator :=
  if g.toggles then g.toggle
  else if g.running then { g with count := g.count + 1 }
  else g

/-- R109: a quarter-beat event reaches the generators while show time runs. -/
def State.quarterBeat (s : State) : State :=
  if s.showTime then
    (List.range Config.blinkGenerators).foldl (fun u g => u.setGenerator g (u.generator g).quarter) s
  else s

/-- R110: the generator after an accepted SET BLINK. -/
def Generator.configure (g : Generator) (rate : Nat) (m : RunMark) : Generator :=
  match m with
  | .run => { g with rate := rate, running := true }
  | .stop => if g.running then ⟨rate, false, true, 0⟩ else { g with rate := rate }

/-- SET BLINK, generator form (R110). -/
def ownSetBlinkGenerator (generator : Nat) (rate : Int) (mark : Option RunMark) : Owner := fun _ s =>
  match mark with
  | none => refuse .badField s
  | some m =>
    if Config.blinkGenerators ≤ generator then refuse .badField s
    else
      let g := (s.generator generator).configure (clamp 1 64 rate) m
      (s.setGenerator generator g, .reply (okOrClamped (clamps 1 64 rate)) (.generator g))

/-- R111: a head record with a blink assignment written. -/
def HeadPatch.assignBlink (c : HeadPatch) (generator : Option Nat) (mask : BlinkMask) : HeadPatch :=
  { c with blinkGenerator := generator, blinkMask := mask }

/-- R111: the heads an assignment writes: the head itself, or the patched members of the group. -/
def State.blinkHeads (s : State) : BlinkTarget → List Nat
  | .head h => [h]
  | .group g => s.patchedHeads.filter (fun h => (s.group g).getLsbD h)

/-- R111: the assignment written into head records. -/
def State.assignBlink (s : State) (hs : List Nat) (generator : Option Nat) (mask : BlinkMask) : State :=
  hs.foldl (fun u h => u.setHeadPatch h ((u.headPatch h).assignBlink generator mask)) s

/-- R111: the target names a head or a group that exists. -/
def blinkTargetValid : BlinkTarget → Bool
  | .head h => decide (h < Config.heads)
  | .group g => decide (g < Config.groups)

/-- R111: the target is a head that is not patched. -/
def State.blinkTargetMissing (s : State) : BlinkTarget → Bool
  | .head h => !s.patched h
  | .group _ => false

/-- SET BLINK, assignment form (R111). -/
def ownSetBlinkAssignment (target : Option BlinkTarget) (generator : Option Nat) (mask : Option BlinkMask) :
    Owner := fun _ s =>
  if s.storeBusy then refuse .storeBusy s
  else
    match target, mask with
    | some tg, some mk =>
      if !blinkTargetValid tg || generator.any (fun g => decide (Config.blinkGenerators ≤ g)) then refuse .badField s
      else if s.blinkTargetMissing tg then refuse .notFound s
      else accept (s.assignBlink (s.blinkHeads tg) generator mk) (.written (s.blinkHeads tg).length)
    | _, _ => refuse .badField s

/-- SET_BLINK_GENERATOR (R110). -/
def execSetBlinkGenerator (t : Nat) (tag : Byte) (generator : Nat) (rate : Int) (mark : Option RunMark)
    (s : State) : Host.Outcome State Fault Refusal :=
  request t tag 0x4C#8 (ownSetBlinkGenerator generator rate mark) s

/-- SET_BLINK_ASSIGNMENT (R111). -/
def execSetBlinkAssignment (t : Nat) (tag : Byte) (target : Option BlinkTarget) (generator : Option Nat)
    (mask : Option BlinkMask) (s : State) : Host.Outcome State Fault Refusal :=
  request t tag 0x4C#8 (ownSetBlinkAssignment target generator mask) s

/-- BLINK_TOGGLE (R109): a quarter-beat, taken while show time runs, brings a running generator's count to its rate. Where it does
not, nothing changes (notes/assumptions/2.md). -/
def State.blinkToggle (s : State) (g : Nat) : State :=
  if s.showTime && (s.generator g).toggles then s.setGenerator g (s.generator g).toggle else s

/-- BLINK_TOGGLE (R109). -/
def execBlinkToggle (t : Nat) (generator : Fin 4) (s : State) : Host.Outcome State Fault Refusal :=
  command t (fun u => u.blinkToggle generator.val) s

end Sys2Proof.Machine
end

