-- ==== Sys2Proof/Machine/Operands.lean ====
section
/-! DEFINITION. Operand forms: numbers from bytes, the CRC and the frame of the console link (R166), the sizes
and the parsing of head entries (R24), and the conversion of request fields into stored values. -/

namespace Sys2Proof.Machine

open Sys2Proof

/-! ## Bytes -/

/-- A multi-byte field, high byte first (R166). -/
def ofBytes (l : List Byte) : Nat :=
  l.foldl (fun a b => a * 256 + b.toNat) 0

/-- The field of `len` bytes at offset `off` of a body. -/
def fieldAt (body : List Byte) (off len : Nat) : Nat :=
  ofBytes ((body.drop off).take len)

/-- The byte at offset `off` of a body. -/
def byteAt (body : List Byte) (off : Nat) : Byte :=
  (body.drop off).headD 0#8

/-- A 16-bit level at offset `off` of a body. -/
def levelAt (body : List Byte) (off : Nat) : Level :=
  BitVec.ofNat 16 (fieldAt body off 2)

/-- A level triple at offset `off` of a body. -/
def rgbAt (body : List Byte) (off : Nat) : Rgb :=
  ⟨levelAt body off, levelAt body (off + 2), levelAt body (off + 4)⟩

/-- A yes-or-no mark: bit 0; any other bit set names no value (R169). -/
def markOf (b : Byte) : Option Bool :=
  if b = 0#8 then some false else if b = 1#8 then some true else none

/-- R166: where a field may name *none* or *all*, 0xFF stands for it. -/
def unlessFF (b : Byte) : Option Nat :=
  if b = 0xFF#8 then none else some b.toNat

/-- The two bytes of a 16-bit number, high byte first. -/
def bytes16 (n : Nat) : List Byte :=
  [BitVec.ofNat 8 (n / 256), BitVec.ofNat 8 n]

/-! ## The check and the frame of the console link (R166) -/

/-- R166: the register shifted out by `n` bits under the polynomial 0x1021. -/
def crcShift : Nat → BitVec 16 → BitVec 16
  | 0, r => r
  | n + 1, r => crcShift n (if r.msb then (r <<< 1) ^^^ 0x1021#16 else r <<< 1)

/-- R166: one byte combined into the register's high byte and shifted out. -/
def crcByte (r : BitVec 16) (b : Byte) : BitVec 16 :=
  crcShift 8 (r ^^^ (b.setWidth 16 <<< 8))

/-- R166: the check over a list of bytes. -/
def crc (l : List Byte) : BitVec 16 :=
  l.foldl crcByte 0xFFFF#16

/-- R166: the sync byte. -/
def syncByte : Byte := 0xC3#8

/-- R166: the bytes of a frame after the sync byte and before the check. -/
def frameCore (kind tag : Byte) (body : List Byte) : List Byte :=
  bytes16 body.length ++ kind :: tag :: body

/-- R166: the frame of a kind, a tag and a body. -/
def frameBytes (kind tag : Byte) (body : List Byte) : List Byte :=
  syncByte :: (frameCore kind tag body ++ bytes16 (crc (frameCore kind tag body)).toNat)

/-- R167: what the assembler makes of the bytes taken since the sync byte. -/
inductive Assembly
  | more
  | discard
  | frame (kind tag : Byte) (body : List Byte)
deriving DecidableEq, Repr

/-- R167: discards on an oversize length as soon as its second byte is in and on a wrong check; a frame whose check
matches is handed on. -/
def assemble (bytes : List Byte) : Assembly :=
  if bytes.length < 2 then .more
  else
    let n := fieldAt bytes 0 2
    if Config.maxBody < n then .discard
    else if bytes.length < n + 6 then .more
    else if (crc (bytes.take (n + 4))).toNat = fieldAt bytes (n + 4) 2 then
      .frame (byteAt bytes 2) (byteAt bytes 3) ((bytes.drop 4).take n)
    else .discard

/-! ## Head entries in a request (R24) -/

/-- R24: the size an entry takes, fixed by its marks. -/
def entrySize (pan tilt intensity colour : Bool) : Nat :=
  3 + (if pan then 4 else 0) + (if tilt then 4 else 0) + (if intensity then 2 else 0)
    + (if colour then 6 else 0)

/-- R24: the size of an entry of a request. -/
def entryReqSize (e : EntryReq) : Nat :=
  entrySize e.pan.isSome e.tilt.isSome e.intensity.isSome e.colour.isSome

/-- R24: the size of a stored entry in a reply. -/
def Entry.size (e : Entry) : Nat :=
  entrySize e.pan.isSome e.tilt.isSome e.intensity.isSome e.colour.isSome

/-- R20: at least one of the four values is present. -/
def entryMarked (e : EntryReq) : Bool :=
  e.pan.isSome || e.tilt.isSome || e.intensity.isSome || e.colour.isSome

/-- The value of `len` bytes at the front when its mark is set, and the bytes after it; `none` when they run out. -/
def takeMarked (mark : Bool) (len : Nat) (l : List Byte) : Option (Option (List Byte) × List Byte) :=
  if mark then
    if l.length < len then none else some (some (l.take len), l.drop len)
  else some (none, l)

/-- R24: one entry at the front of the bytes: head id, presence marks (bit 0 pan, 1 tilt, 2 intensity, 3 colour), then
the values whose marks are set, in that order. The flag says that a mark bit names no value. -/
def parseEntry (l : List Byte) : Option ((EntryReq × Bool) × List Byte) :=
  if l.length < 3 then none
  else
    let marks := byteAt l 2
    match takeMarked (marks.getLsbD 0) 4 (l.drop 3) with
    | none => none
    | some (pan, l1) =>
      match takeMarked (marks.getLsbD 1) 4 l1 with
      | none => none
      | some (tilt, l2) =>
        match takeMarked (marks.getLsbD 2) 2 l2 with
        | none => none
        | some (level, l3) =>
          match takeMarked (marks.getLsbD 3) 6 l3 with
          | none => none
          | some (colour, l4) =>
            some ((⟨fieldAt l 0 2, pan.map (fun b => (ofBytes b : Int)), tilt.map (fun b => (ofBytes b : Int)),
              level.map (fun b => BitVec.ofNat 16 (ofBytes b)), colour.map (fun b => rgbAt b 0)⟩,
              decide (15 < marks.toNat)), l4)

/-- R168: exactly `n` entries that end exactly at the end of the body. -/
def parseEntries : Nat → List Byte → Option (List EntryReq × Bool)
  | 0, l => if l.isEmpty then some ([], false) else none
  | n + 1, l =>
    match parseEntry l with
    | none => none
    | some ((e, stray), rest) =>
      match parseEntries n rest with
      | none => none
      | some (es, strays) => some (e :: es, stray || strays)

/-! ## From request fields to stored values -/

/-- The triple a request carries, as it is stored. -/
def toColour (c : Rgb) : Colour :=
  ⟨c.red.toNat, c.green.toNat, c.blue.toNat⟩

/-- R26: an entry with its pan and tilt clamped into 0 to 72,000. -/
def storedEntry (e : EntryReq) : Entry where
  head := e.head
  pan := e.pan.map (clamp 0 Config.maxAngle)
  tilt := e.tilt.map (clamp 0 Config.maxAngle)
  intensity := e.intensity.map BitVec.toNat
  colour := e.colour.map toColour

/-- R26: whether storing the entry clamps a field. -/
def entryClamps (e : EntryReq) : Bool :=
  e.pan.any (clamps 0 Config.maxAngle) || e.tilt.any (clamps 0 Config.maxAngle)

/-- R1: a width as a request carries it. -/
def widthOf (n : Nat) : Option Width :=
  if n = 8 then some .w8 else if n = 16 then some .w16 else none

/-- R127: the frame number of a time of day. -/
def frameNumber (hours minutes seconds frames : Nat) : Nat :=
  ((hours * 60 + minutes) * 60 + seconds) * 30 + frames

/-- R127: the six characters of a message read as a frame number, when the message is valid. -/
def timecodeFrame (chars : List Byte) : Option Nat :=
  match chars with
  | [sync, h, m, s, f, check] =>
    if sync = 0xA5#8 ∧ h.toNat < 24 ∧ m.toNat < 60 ∧ s.toNat < 60 ∧ f.toNat < 30 ∧ check = h + m + s + f then
      some (frameNumber h.toNat m.toNat s.toNat f.toNat)
    else none
  | _ => none

/-- R138: a channel unit from its two slots. -/
def unitOf (high low : Byte) : Nat :=
  high.toNat * 256 + low.toNat

/-- R138, R145: the reply a fixture's eight characters make, or no reply: the first is 0x72, every character had its
stop bits, and the eighth is the low 8 bits of the sum of characters 2 to 7. -/
def reportedBy (c : ReplyChars) : Option Reported :=
  if c.header = 0x72#8 ∧ c.stopBits = true ∧
      c.check = c.flags + c.panHigh + c.panLow + c.tiltHigh + c.tiltLow + c.faults then
    some ⟨c.flags.getLsbD 0, unitOf c.panHigh c.panLow, unitOf c.tiltHigh c.tiltLow,
      ⟨c.faults.getLsbD 0, c.faults.getLsbD 1, c.faults.getLsbD 2⟩⟩
  else none

end Sys2Proof.Machine
end

