-- ==== Sys2Proof/Machine/Arbiter.lean ====
section
/-! DEFINITION. The head lines (09): frame times (R137), the turn arbiter (R140, R141), refresh frames (R139, R142), the
query queue (R143) and the start of an exchange (R144). -/

namespace Sys2Proof.Machine

open Sys2Proof

/-- R137: the refresh frame time in µs. -/
def frameTime (slots : Nat) : Nat :=
  156 + 44 * slots

/-- R136: the effective refresh period in ms: the larger of the refresh period and the frame time rounded up. -/
def effectiveMs (refreshMs slots : Nat) : Nat :=
  max refreshMs (ceilDiv (frameTime slots) 1000)

/-! ## Turns -/

/-- R142: a refresh frame starts: every slot is built, the snapshot is replaced, the refresh timer is started with the
effective period and refresh due is cleared. -/
def State.startRefresh (s : State) (l : Nat) : State :=
  let y := s.line l
  s.setLine l { y with
    turn := .frame (0x00#8 :: s.frameSlots l)
    refreshDue := false
    refreshTimer := some (s.now + 1000 * effectiveMs y.settings.refreshMs (s.slotCount l))
    snapshot := s.frameSnapshot l }

/-- R138: the code of a query kind. -/
def QueryKind.code : QueryKind → Byte
  | .status => 0x01#8
  | .home => 0x02#8

/-- R138: the slots of a query frame, header first. -/
def queryFrame (base : Nat) (kind : QueryKind) (j : Judge) : List Byte :=
  0x71#8 :: bytes16 base ++ [kind.code] ++
    match j.values with
    | some v => bytes16 v.1 ++ bytes16 v.2
    | none => [0#8, 0#8, 0#8, 0#8]

/-- R144: the judge snapshot of a head at an exchange start. -/
def State.judgeOf (s : State) (l h : Nat) : Judge where
  values := ((s.line l).snapshot.find? (fun e => e.head == h)).map (fun e => (e.pan, e.tilt))
  settled := (s.motion h).any (fun m => m.settle == Config.settledMs)

/-- The base slot a query is addressed to. -/
def State.baseOf (s : State) (h : Nat) : Nat :=
  match s.placement h with
  | some p => p.base
  | none => 0

/-- R144: the exchange of an entry starts; the entry leaves the queue and the wait counter becomes 0 (R141). -/
def State.startExchange (s : State) (l : Nat) (e : QueryEntry) (rest : List QueryEntry) : State :=
  let j := s.judgeOf l e.head
  s.setLine l { s.line l with
    turn := .exchange ⟨e, j, queryFrame (s.baseOf e.head) e.kind j, .sending, .kept, false⟩
    queue := rest
    wait := 0 }

/-- R141: what a decision grants. `refresh ahead` says whether the frame goes ahead of a waiting query. -/
inductive Grant
  | nothing
  | refresh (ahead : Bool)
  | query (e : QueryEntry) (rest : List QueryEntry)
deriving DecidableEq, Repr

/-- R140, R141: the decision table. A line that is not IDLE or is disabled grants nothing; no refresh frame is sent while
the slot count is 0 (R139). -/
def Line.grant (y : Line) (now slots : Nat) : Grant :=
  if y.turn ≠ .idle ∨ ¬ y.settings.enabled then .nothing
  else
    match y.queue with
    | [] => if y.refreshDue && decide (0 < slots) then .refresh false else .nothing
    | e :: rest =>
      if !y.claimed now || decide (y.threshold ≤ y.wait) then .query e rest
      else if y.refreshDue && decide (0 < slots) then .refresh true
      else .nothing

/-- R140: the arbiter makes a decision on a line, and the granted turn starts. -/
def State.decideTurn (s : State) (l : Nat) : State :=
  match (s.line l).grant s.now (s.slotCount l) with
  | .nothing => s
  | .refresh false => s.startRefresh l
  | .refresh true =>
    (s.setLine l { s.line l with wait := (s.line l).wait + 1 }).startRefresh l
  | .query e rest => s.startExchange l e rest

/-- R140: a turn ends: the line becomes IDLE and a decision is made. -/
def State.endTurn (s : State) (l : Nat) : State :=
  (s.setLine l { s.line l with turn := .idle }).decideTurn l

/-- R139: the slot count of a line was `before` and is now what the patch gives. -/
def State.slotCountChanged (s : State) (l before : Nat) : State :=
  if s.slotCount l = 0 then s.setLine l { s.line l with refreshTimer := none, refreshDue := false }
  else if before = 0 ∧ (s.line l).settings.enabled then
    (s.setLine l { s.line l with refreshDue := true }).decideTurn l
  else s

/-! ## The query queue -/

/-- R143: an entry is added at the tail, which is a decision for an IDLE line; `none` when the line refuses it. -/
def State.addQuery (s : State) (l : Nat) (e : QueryEntry) : Option State :=
  if (s.line l).accepts then
    some ((s.setLine l { s.line l with queue := (s.line l).queue ++ [e] }).decideTurn l)
  else none

/-- R143: a removed CONSOLE entry is answered ABORTED. -/
def State.abortEntry (s : State) (e : QueryEntry) : State :=
  match e.origin with
  | .console tag => s.abortQuery tag
  | .audit => s
  | .supervision => s

/-- R143: removed entries are answered ABORTED or dropped. R143 gives no order among several; that they are answered oldest
first is this model's choice (notes/assumptions/29.md; 11 and 26 for a RIG RESET and a LOAD). -/
def State.abortEntries (s : State) (es : List QueryEntry) : State :=
  es.foldl State.abortEntry s

/-- R143: entries leave a line's queue from within it, the others keeping their order; the wait counter returns to 0 when
the queue becomes empty (R141). -/
def State.dropQueries (s : State) (l : Nat) (p : QueryEntry → Bool) : State :=
  let y := s.line l
  let kept := y.queue.filter (fun e => !p e)
  (s.setLine l { y with queue := kept, wait := if kept.isEmpty then 0 else y.wait }).abortEntries (y.queue.filter p)

/-- The console queries among entries. -/
def consoleCount (es : List QueryEntry) : Nat :=
  (es.filter (fun e => match e.origin with
    | .console _ => true
    | .audit => false
    | .supervision => false)).length

/-- The HOME queries among entries. -/
def homeCount (es : List QueryEntry) : Nat :=
  (es.filter (fun e => e.kind == .home)).length

/-- R146: an exchange in flight for a head on a line is discarded, unless it already is. -/
def State.discardExchange (s : State) (l h : Nat) (how : QueryKind → Discard) : State :=
  match (s.line l).turn with
  | .exchange x =>
    if x.entry.head = h ∧ x.discard = .kept then
      s.setLine l { s.line l with turn := .exchange { x with discard := how x.entry.kind } }
    else s
  | .idle => s
  | .frame _ => s

/-! ## Events of a line -/

/-- R139: a running refresh timer runs out: it stops and refresh due is set, which is a decision for an IDLE line. -/
def State.refreshExpiry (s : State) (l : Nat) : State :=
  if (s.line l).refreshTimer.isSome then
    (s.setLine l { s.line l with refreshTimer := none, refreshDue := true }).decideTurn l
  else s

/-- REFRESH_TIMER_EXPIRY (R139). -/
def execRefreshTimerExpiry (t : Nat) (line : Fin 16) (s : State) : Host.Outcome State Fault Refusal :=
  command t (fun u => u.refreshExpiry line.val) s

/-- R140, R142: the last stop bit of a refresh frame ends the turn. -/
def State.refreshEnd (s : State) (l : Nat) : State :=
  match (s.line l).turn with
  | .frame _ => s.endTurn l
  | .idle => s
  | .exchange _ => s

/-- REFRESH_FRAME_END (R140). -/
def execRefreshFrameEnd (t : Nat) (line : Fin 16) (s : State) : Host.Outcome State Fault Refusal :=
  command t (fun u => u.refreshEnd line.val) s

/-- R144, R151: the last stop bit of a query frame opens the reply window, or ends an abandoned exchange, whose CONSOLE entry
is answered ABORTED. -/
def State.queryEnd (s : State) (l : Nat) : State :=
  match (s.line l).turn with
  | .exchange x =>
    match x.phase with
    | .sending =>
      if x.abandoned then (s.abortEntry x.entry).endTurn l
      else s.setLine l { s.line l with turn := .exchange { x with phase := .window s.now, frame := [] } }
    | .window _ => s
  | .idle => s
  | .frame _ => s

/-- QUERY_FRAME_END (R144, R151). -/
def execQueryFrameEnd (t : Nat) (line : Fin 16) (s : State) : Host.Outcome State Fault Refusal :=
  command t (fun u => u.queryEnd line.val) s

/-! ## Console requests of the lines -/

/-- R149: a console STATUS entry. -/
def consoleQuery (h : Nat) (p : Priority) (tag : Byte) : QueryEntry :=
  ⟨h, .status, p, .console tag⟩

/-- QUERY HEAD (R149). -/
def ownQueryHead (h : Nat) (priority : Option Priority) : Owner := fun tag s =>
  match priority with
  | none => refuse .badField s
  | some pr =>
    if Config.heads ≤ h then refuse .badField s
    else
      match s.placement h with
      | none => refuse .notFound s
      | some p =>
        if !(s.personalityOf h).any (fun q => q.feedback) || !(s.line p.line).settings.enabled then
          refuse .wrongState s
        else
          match s.addQuery p.line (consoleQuery h pr tag) with
          | none => refuse .queueFull s
          | some s' => (s', .deferred)

/-- QUERY_HEAD (R149). -/
def execQueryHead (t : Nat) (tag : Byte) (head : Nat) (priority : Option Priority) (s : State) :
    Host.Outcome State Fault Refusal :=
  request t tag kindQueryHead (ownQueryHead head priority) s

/-- The name of a turn state. -/
def Turn.name : Turn → TurnName
  | .idle => .idle
  | .frame _ => .frame
  | .exchange _ => .exchange

/-- R150: the exchange in progress as READ LINE shows it. -/
def Turn.exchangeReport : Turn → Option ExchangeReport
  | .exchange x => some ⟨x.entry.head, x.entry.kind, x.entry.origin, decide (x.discard ≠ .kept)⟩
  | .idle => none
  | .frame _ => none

/-- R150: what READ LINE reports. -/
def State.lineReport (s : State) (l : Nat) : LineReport :=
  let y := s.line l
  { settings := y.settings
    slotCount := s.slotCount l
    frameTime := frameTime (s.slotCount l)
    effectiveMs := effectiveMs y.settings.refreshMs (s.slotCount l)
    turn := y.turn.name
    refreshDue := y.refreshDue
    refreshRemaining := y.refreshTimer.map s.remaining
    wait := y.wait
    priority := y.priority
    queue := y.queue
    exchange := y.turn.exchangeReport
    snapshot := y.snapshot }

/-- READ LINE (R150). -/
def ownReadLine (l : Nat) : Owner := fun _ s =>
  if Config.headLines ≤ l then refuse .badField s else accept s (.line (s.lineReport l))

/-- READ_LINE (R150). -/
def execReadLine (t : Nat) (tag : Byte) (line : Nat) (s : State) : Host.Outcome State Fault Refusal :=
  request t tag 0x5A#8 (ownReadLine line) s

end Sys2Proof.Machine
end

