-- ==== Sys2Proof/Machine/Supervise.lean ====
section
/-! DEFINITION. Head supervision (10): the audit (R154), the poll (R155), replies and no replies (R156 to R159), re-homing
(R160, R161), its console requests (R162, R163), the end of an exchange (R145, R146) and CONFIGURE LINE (R148), whose removed
HOME entries supervision takes back. -/

namespace Sys2Proof.Machine

open Sys2Proof

/-! ## The supervision record -/

/-- R153, R164: a head's record becomes `w`; a changed condition sends HEAD_CONDITION with the counts of `w`. -/
def State.moveCondition (s : State) (h : Nat) (w : Watch) (cause : ConditionCause) : State :=
  let before := (s.watch h).condition
  if before = w.condition then s.setWatch h w
  else (s.setWatch h w).notify (.headCondition h before w.condition cause w.strikes w.misses)

/-- The head leaves the re-home queue if it is there. -/
def State.leaveRehome (s : State) (h : Nat) : State :=
  { s with supervision.rehomeQueue := s.supervision.rehomeQueue.erase h }

/-- The head joins the tail of the re-home queue, its stage QUEUED (R158, R162). -/
def State.joinRehome (s : State) (h : Nat) : State :=
  { s.setWatch h { s.watch h with stage := .queued } with
    supervision.rehomeQueue := s.supervision.rehomeQueue ++ [h] }

/-- The homing count falls by `n`. -/
def State.lowerHoming (s : State) (n : Nat) : State :=
  { s with supervision.homingCount := s.supervision.homingCount - n }

/-! ## The re-home dispatch (R160) -/

/-- R160: the HOME entry of a dispatch. -/
def homeQuery (h : Nat) : QueryEntry :=
  ⟨h, .home, .urgent, .supervision⟩

/-- R160: one head of the walk: its HOME entry accepted, it leaves the queue, its stage becomes SENT and the homing count
rises; refused, it keeps its place. -/
def State.dispatchHead (s : State) (h : Nat) : State :=
  if s.supervision.homingCount < s.supervision.homingLimit then
    match s.placement h with
    | none => s
    | some p =>
      match s.addQuery p.line (homeQuery h) with
      | none => s
      | some s1 =>
        let s2 := (s1.setWatch h { s1.watch h with stage := .sent }).leaveRehome h
        { s2 with supervision.homingCount := s2.supervision.homingCount + 1 }
  else s

/-- R160: the walk from the oldest entry to the newest. -/
def State.dispatch (s : State) : State :=
  s.supervision.rehomeQueue.foldl State.dispatchHead s

/-! ## Replies -/

/-- The three flags clear. -/
def Faults.clear : Faults := ⟨false, false, false⟩

/-- R156: the previous flags. -/
def Watch.flags (w : Watch) : Faults :=
  match w.lastReply with
  | some r => r.faults
  | none => Faults.clear

/-- R158: the reply is judged: its homing flag is clear, the snapshot holds values, and the head had settled. -/
def judged (j : Judge) (r : Reported) : Bool :=
  !r.homing && j.values.isSome && j.settled

/-- R158: the distance of two channel units. -/
def unitDistance (a b : Nat) : Nat :=
  (a - b) + (b - a)

/-- R158: the reported position differs from the snapshot by more than the tolerance on an axis. -/
def drifted (tolerance : Nat) (j : Judge) (r : Reported) : Bool :=
  j.values.any (fun v => decide (tolerance < unitDistance r.pan v.1) || decide (tolerance < unitDistance r.tilt v.2))

/-- R156, R164: the condition a head has after a reply of a kind, as the FAULT notice carries it. -/
def conditionAfterReply (w : Watch) (kind : QueryKind) (tolerance : Nat) (j : Judge) (r : Reported) : Condition :=
  if r.faults.motor ∨ w.condition = .faulted then .faulted
  else
    match kind with
    | .home => .homing
    | .status =>
      match w.condition with
      | .homing => if r.homing then .homing else .active
      | .drifted => .drifted
      | .faulted => .faulted
      | .active =>
        if judged j r && drifted tolerance j r && decide (1 ≤ w.strikes) then .drifted else .active
      | .lost =>
        if judged j r && drifted tolerance j r && decide (1 ≤ w.strikes) then .drifted else .active

/-- R156 step 3: MOTOR makes a head FAULTED that is not. -/
def State.motorFault (s : State) (h : Nat) : State :=
  let w := s.watch h
  if w.condition = .faulted then s
  else
    match w.stage with
    | .none => s.moveCondition h { w with condition := .faulted, strikes := 0 } .motor
    | .queued =>
      (s.leaveRehome h).moveCondition h { w with condition := .faulted, strikes := 0, stage := .none } .motor
    | .sent => s.moveCondition h { w with condition := .faulted, strikes := 0 } .motor
    | .homing =>
      ((s.moveCondition h { w with condition := .faulted, strikes := 0, stage := .none, deadline := none } .motor).lowerHoming
        1).dispatch

/-- R161: a HOME outcome that releases the count: the stage becomes NONE and the homing count falls by 1. -/
def State.endSent (s : State) (h : Nat) : State :=
  ((s.setWatch h { s.watch h with stage := .none }).lowerHoming 1).dispatch

/-- R161: a HOME reply of a head not FAULTED. -/
def State.startHoming (s : State) (h : Nat) : State :=
  s.moveCondition h
    { s.watch h with
      condition := .homing, strikes := 0, stage := .homing, deadline := some (s.now + Config.homingUs) }
    .homingStart

/-- R157: a homing is complete. -/
def State.finishHoming (s : State) (h : Nat) : State :=
  ((s.moveCondition h
    { s.watch h with condition := .active, strikes := 0, stage := .none, deadline := none } .homingDone).lowerHoming
      1).dispatch

/-- R158: a strike. -/
def State.strike (s : State) (h : Nat) : State :=
  let w := s.watch h
  if 1 ≤ w.strikes ∧ w.condition = .active then
    let s1 := s.moveCondition h { w with strikes := 2, condition := .drifted } .drift
    if (s.headPatch h).autoRehome ∧ w.stage = .none then (s1.joinRehome h).dispatch else s1
  else s.setWatch h { w with strikes := min 2 (w.strikes + 1) }

/-- R158: drift judgement. -/
def State.judgeDrift (s : State) (h : Nat) (j : Judge) (r : Reported) : State :=
  if !judged j r then s
  else if drifted (s.headPatch h).driftTolerance j r then s.strike h
  else s.setWatch h { s.watch h with strikes := 0 }

/-- R157: a STATUS reply of a head that is not FAULTED. -/
def State.statusReply (s : State) (h : Nat) (j : Judge) (r : Reported) : State :=
  match (s.watch h).condition with
  | .homing => if r.homing then s else s.finishHoming h
  | .lost => (s.moveCondition h { s.watch h with condition := .active } .reply).judgeDrift h j r
  | .active => s.judgeDrift h j r
  | .drifted => s.judgeDrift h j r
  | .faulted => s

/-- R156 steps 1 and 2: the reply is recorded, and changed fault flags are told. -/
def State.recordReply (s : State) (h : Nat) (kind : QueryKind) (j : Judge) (r : Reported) : State :=
  let w := s.watch h
  let s1 := s.setWatch h { w with lastReply := some ⟨r.pan, r.tilt, r.faults⟩, misses := 0 }
  if r.faults = w.flags then s1
  else s1.notify (.fault h w.flags r.faults (conditionAfterReply w kind (s.headPatch h).driftTolerance j r))

/-- R156, R157, R161: a reply. -/
def State.handleReply (s : State) (h : Nat) (kind : QueryKind) (j : Judge) (r : Reported) : State :=
  let s1 := s.recordReply h kind j r
  let s2 := if r.faults.motor then s1.motorFault h else s1
  match kind, (s2.watch h).condition with
  | .home, .faulted => s2.endSent h
  | .home, _ => s2.startHoming h
  | .status, .faulted => s2
  | .status, _ => s2.statusReply h j r

/-- R159: a no reply. -/
def State.miss (s : State) (h : Nat) : State :=
  let w := s.watch h
  if 2 ≤ w.misses ∧ (w.condition = .active ∨ w.condition = .drifted) then
    s.moveCondition h { w with misses := 3, condition := .lost, strikes := 0 } .misses
  else s.setWatch h { w with misses := min 3 (w.misses + 1) }

/-- R159, R161: a no reply of a kind. -/
def State.handleNoReply (s : State) (h : Nat) (kind : QueryKind) : State :=
  match kind with
  | .status => s.miss h
  | .home => (s.miss h).endSent h

/-! ## The end of an exchange (R145, R146) -/

/-- R146: the answer of a console query whose exchange ended. -/
def State.answerQuery (s : State) (e : QueryEntry) (outcome : Option Reported) : State :=
  match e.origin, outcome with
  | .console tag, some r => s.answerDeferred kindQueryHead tag .ok (.reported r)
  | .console tag, none => s.answerDeferred kindQueryHead tag .noReply .bare
  | .audit, _ => s
  | .supervision, _ => s

/-- R146: an outcome handed to supervision. -/
def State.supervise (s : State) (x : Exchange) (outcome : Option Reported) : State :=
  match outcome with
  | some r => s.handleReply x.entry.head x.entry.kind x.judge r
  | none => s.handleNoReply x.entry.head x.entry.kind

/-- R146: the outcome is handed on, or the exchange is discarded; a discarded HOME exchange may release its count (R15,
R161). -/
def State.handOn (s : State) (x : Exchange) (outcome : Option Reported) : State :=
  if x.abandoned then s.abortEntry x.entry
  else
    match x.discard with
    | .kept => (s.supervise x outcome).answerQuery x.entry outcome
    | .unpatched true => ((s.lowerHoming 1).dispatch).abortEntry x.entry
    | .unpatched false => s.abortEntry x.entry
    | .repatched => s.abortEntry x.entry
    | .loaded => s.abortEntry x.entry

/-- R145: an exchange whose reply window is open ends with an outcome, which is a turn end. -/
def State.endExchange (s : State) (l : Nat) (outcome : Option Reported) : State :=
  match (s.line l).turn with
  | .exchange x =>
    match x.phase with
    | .window _ => (s.handOn x outcome).endTurn l
    | .sending => s
  | .idle => s
  | .frame _ => s

/-- REPLY_FRAME_RECEIVED (R145). -/
def execReplyFrameReceived (t : Nat) (line : Fin 16) (chars : ReplyChars) (s : State) :
    Host.Outcome State Fault Refusal :=
  command t (fun u => u.endExchange line.val (reportedBy chars)) s

/-- REPLY_START_TIMEOUT (R145). -/
def execReplyStartTimeout (t : Nat) (line : Fin 16) (s : State) : Host.Outcome State Fault Refusal :=
  command t (fun u => u.endExchange line.val none) s

/-- REPLY_SHORT_TIMEOUT (R145). -/
def execReplyShortTimeout (t : Nat) (line : Fin 16) (s : State) : Host.Outcome State Fault Refusal :=
  command t (fun u => u.endExchange line.val none) s

/-! ## The audit and the poll -/

/-- R154: the head may be audited: its personality is feedback_capable and its condition is not HOMING. -/
def State.auditable (s : State) (h : Nat) : Bool :=
  (s.personalityOf h).any (fun q => q.feedback) && decide ((s.watch h).condition ≠ .homing)

/-- R154: the next head to audit on a line: the first above the cursor, then wrapping to the lowest. -/
def State.nextAudit (s : State) (l : Nat) : Option Nat :=
  let hs := (s.headsOn l).filter s.auditable
  match (s.line l).auditCursor with
  | none => hs.head?
  | some c =>
    match hs.find? (fun h => decide (c < h)) with
    | some h => some h
    | none => hs.head?

/-- R154: the audit entry of a head. -/
def auditQuery (h : Nat) : QueryEntry :=
  ⟨h, .status, .routine, .audit⟩

/-- The state after an entry is asked for, refused or not. -/
def State.tryQuery (s : State) (l : Nat) (e : QueryEntry) : State :=
  match s.addQuery l e with
  | some s' => s'
  | none => s

/-- R154: the audit of a line moves on to the next head. -/
def State.audit (s : State) (l : Nat) : State :=
  match s.nextAudit l with
  | none => s
  | some h =>
    let s1 := s.setLine l { s.line l with auditCursor := some h }
    if (s1.line l).hasEntry h then s1 else s1.tryQuery l (auditQuery h)

/-- R147: an audit timer expires: it is reloaded, and the expiry is handed to supervision. -/
def State.auditExpiry (s : State) (l : Nat) : State :=
  if (s.line l).auditTimer.isSome then
    (s.setLine l { s.line l with auditTimer := some (s.now + 1000 * (s.line l).settings.auditMs) }).audit l
  else s

/-- AUDIT_TIMER_EXPIRY (R147, R154). -/
def execAuditTimerExpiry (t : Nat) (line : Fin 16) (s : State) : Host.Outcome State Fault Refusal :=
  command t (fun u => u.auditExpiry line.val) s

/-- R155: the poll entry of a HOMING head. -/
def pollQuery (h : Nat) : QueryEntry :=
  ⟨h, .status, .urgent, .supervision⟩

/-- R155: a HOMING head is asked for its state, unless an entry for it is queued. -/
def State.pollHead (s : State) (h : Nat) : State :=
  match s.placement h with
  | none => s
  | some p =>
    if (s.watch h).condition = .homing ∧ ¬ (s.line p.line).hasEntry h then s.tryQuery p.line (pollQuery h) else s

/-- R155: the homing polls, ascending, then the dispatch; the poll timer runs on. -/
def State.poll (s : State) : State :=
  let s1 := { s with supervision.pollTimer := s.now + Config.pollUs }
  ((List.range Config.heads).foldl State.pollHead s1).dispatch

/-- SUPERVISION_POLL (R155). -/
def execSupervisionPoll (t : Nat) (s : State) : Host.Outcome State Fault Refusal :=
  command t State.poll s

/-- R161: a HOMING head's deadline expires. -/
def State.homingExpiry (s : State) (h : Nat) : State :=
  if (s.watch h).condition = .homing ∧ (s.watch h).deadline.isSome then
    ((s.moveCondition h { s.watch h with condition := .faulted, stage := .none, deadline := none } .deadline).lowerHoming
      1).dispatch
  else s

/-- HOMING_DEADLINE_EXPIRY (R161). -/
def execHomingDeadlineExpiry (t : Nat) (head : Fin 512) (s : State) : Host.Outcome State Fault Refusal :=
  command t (fun u => u.homingExpiry head.val) s

/-! ## Console requests -/

/-- The place of a number in a list, counted from 1. -/
def placeIn (l : List Nat) (h : Nat) : Option Nat :=
  (l.findIdx? (fun x => x == h)).map (· + 1)

/-- REHOME HEAD (R162). -/
def ownRehomeHead (h : Nat) : Owner := fun _ s =>
  if s.loading then refuse .storeBusy s
  else if Config.heads ≤ h then refuse .badField s
  else if !s.patched h then refuse .notFound s
  else if !(s.personalityOf h).any (fun q => q.feedback) || decide ((s.watch h).condition = .faulted)
      || decide ((s.watch h).stage ≠ .none) then refuse .wrongState s
  else
    let s' := (s.joinRehome h).dispatch
    accept s' (.rehome (placeIn s'.supervision.rehomeQueue h))

/-- R163: a head's condition cleared. -/
def State.clearCondition (s : State) (h : Nat) : State :=
  let w := s.watch h
  let w' : Watch := { w with condition := .active, strikes := 0, misses := 0, stage := .none, deadline := none }
  match w.stage with
  | .homing => ((s.moveCondition h w' .clear).lowerHoming 1).dispatch
  | .queued => (s.leaveRehome h).moveCondition h w' .clear
  | .none => s.moveCondition h w' .clear
  | .sent => s.moveCondition h w' .clear

/-- CLEAR CONDITION (R163). -/
def ownClearCondition (h : Nat) : Owner := fun _ s =>
  if s.loading then refuse .storeBusy s
  else if Config.heads ≤ h then refuse .badField s
  else if !s.patched h then refuse .notFound s
  else if (s.watch h).stage = .sent then refuse .wrongState s
  else accept (s.clearCondition h) (.conditionBefore (s.watch h).condition)

/-- R163: the homing limit a SET AUDIT gives: clamped, then raised to the homing count. -/
def State.auditLimit (s : State) (v : Int) : Nat :=
  max (clamp 1 16 v) s.supervision.homingCount

/-- SET AUDIT (R163, R160: the dispatch is run when the limit is changed). The homing count of the reply is the one after the
dispatch (notes/assumptions/16.md). -/
def ownSetAudit (v : Int) : Owner := fun _ s =>
  let limit := s.auditLimit v
  let s1 := { s with supervision.homingLimit := limit }
  let s2 := if limit = s.supervision.homingLimit then s1 else s1.dispatch
  (s2, .reply (okOrClamped (clamps 1 16 v || decide (clamp 1 16 v < s.supervision.homingCount)))
    (.audit limit s2.supervision.homingCount))

/-- REHOME_HEAD (R162). -/
def execRehomeHead (t : Nat) (tag : Byte) (head : Nat) (s : State) : Host.Outcome State Fault Refusal :=
  request t tag 0x5C#8 (ownRehomeHead head) s

/-- CLEAR_CONDITION (R163). -/
def execClearCondition (t : Nat) (tag : Byte) (head : Nat) (s : State) : Host.Outcome State Fault Refusal :=
  request t tag 0x5D#8 (ownClearCondition head) s

/-- SET_AUDIT (R163). -/
def execSetAudit (t : Nat) (tag : Byte) (limit : Int) (s : State) : Host.Outcome State Fault Refusal :=
  request t tag 0x5E#8 (ownSetAudit limit) s

/-! ## CONFIGURE LINE (R148) -/

/-- R161: supervision takes back a HOME entry that a disable removed: the homing count falls; a FAULTED head's stage becomes
NONE, any other head rejoins the re-home queue at the oldest end. -/
def State.takeBackHome (s : State) (e : QueryEntry) : State :=
  if e.kind = .home then
    let s1 := s.lowerHoming 1
    let w := s1.watch e.head
    if w.condition = .faulted then s1.setWatch e.head { w with stage := .none }
    else
      { s1.setWatch e.head { w with stage := .queued } with
        supervision.rehomeQueue := e.head :: s1.supervision.rehomeQueue }
  else s

/-- R148, enabled to disabled. -/
def State.disableLine (s : State) (l : Nat) : State :=
  let removed := (s.line l).queue
  let s1 := s.dropQueries l (fun _ => true)
  let s2 := s1.setLine l { s1.line l with wait := 0, refreshTimer := none, auditTimer := none, refreshDue := false }
  let s3 := removed.reverse.foldl State.takeBackHome s2
  if homeCount removed = 0 then s3 else s3.dispatch

/-- R148, disabled to enabled. -/
def State.enableLine (s : State) (l : Nat) : State :=
  let s1 := s.setLine l { s.line l with auditTimer := some (s.now + 1000 * (s.line l).settings.auditMs) }
  if s1.slotCount l = 0 then s1
  else (s1.setLine l { s1.line l with refreshDue := true }).decideTurn l

/-- R148: the four settings replaced, with the consequences of enabling or disabling the line. -/
def State.configureLine (s : State) (l : Nat) (c : LineSettings) : State :=
  let was := (s.line l).settings.enabled
  let s1 := s.setLine l { s.line l with settings := c, wait := min (s.line l).wait c.maxWait }
  if was && !c.enabled then s1.disableLine l
  else if !was && c.enabled then s1.enableLine l
  else s1

/-- R148: the settings a CONFIGURE LINE stores. -/
def lineSettings (c : LineReq) (enabled : Bool) : LineSettings :=
  ⟨enabled, clamp 10 1000 c.refreshPeriod, clamp 1 15 c.routineMaxWait, clamp 20 5000 c.auditInterval⟩

/-- R148: whether a setting is clamped. -/
def lineClamps (c : LineReq) : Bool :=
  clamps 10 1000 c.refreshPeriod || clamps 1 15 c.routineMaxWait || clamps 20 5000 c.auditInterval

/-- CONFIGURE LINE (R148). -/
def ownConfigureLine (c : LineReq) : Owner := fun _ s =>
  if s.storeBusy then refuse .storeBusy s
  else
    match c.enabled with
    | none => refuse .badField s
    | some on =>
      if Config.headLines ≤ c.line then refuse .badField s
      else
        let st := lineSettings c on
        (s.configureLine c.line st, .reply (okOrClamped (lineClamps c))
          (.lineSettings st (effectiveMs st.refreshMs (s.slotCount c.line))))

/-- CONFIGURE_LINE (R148). -/
def execConfigureLine (t : Nat) (tag : Byte) (c : LineReq) (s : State) : Host.Outcome State Fault Refusal :=
  request t tag 0x58#8 (ownConfigureLine c) s

/-- R165: supervision's part of READ HEAD. -/
def State.watchReport (s : State) (h : Nat) : WatchReport :=
  let w := s.watch h
  { condition := w.condition
    strikes := w.strikes
    misses := w.misses
    lastReply := w.lastReply
    stage := w.stage
    place := if w.stage = .queued then placeIn s.supervision.rehomeQueue h else none
    deadline := if w.stage = .homing then w.deadline.map s.remaining else none }

end Sys2Proof.Machine
end

