-- ==== Sys2Proof/Machine/Layers.lean ====
section
/-! DEFINITION. Playback (03): fade slots, takes (R41 to R49), the layer step (R39, R45, R52), pause, release and kill (R50 to
R53), and the layer requests. -/

namespace Sys2Proof.Machine

open Sys2Proof

/-! ## The fade-slot table (R37) -/

/-- R37: the order of attributes within a head. -/
def Attr.rank : Attr → Nat
  | .pan => 0
  | .tilt => 1
  | .intensity => 2
  | .colour => 3

/-- R37: the place of a head's attribute in a table. -/
def slotKey (h : Nat) (a : Attr) : Nat := 4 * h + a.rank

def Slot.key (x : Slot) : Nat := slotKey x.head x.attr

/-! ## What a take writes -/

/-- A value a take writes for an attribute of a head. -/
structure Want where
  head : Nat
  attr : Attr
  value : Val
deriving DecidableEq, Repr

def Want.key (w : Want) : Nat := slotKey w.head w.attr

/-- R20, R43: the values present in an entry. -/
def Entry.wants (e : Entry) : List Want :=
  (e.pan.map (fun v => Want.mk e.head .pan (.scalar v))).toList
    ++ (e.tilt.map (fun v => Want.mk e.head .tilt (.scalar v))).toList
    ++ (e.intensity.map (fun v => Want.mk e.head .intensity (.scalar v))).toList
    ++ (e.colour.map (fun v => Want.mk e.head .colour (.triple v))).toList

/-- R42: the values of a cue for patched heads. -/
def State.cueWants (s : State) (c : Cue) : List Want :=
  (c.entries.filter (fun e => s.patched e.head)).flatMap Entry.wants

/-- R42: the entries of a cue for unpatched heads. -/
def State.skipped (s : State) (c : Cue) : Nat :=
  (c.entries.filter (fun e => !s.patched e.head)).length

/-- R46: the tracked target of the cues given, first to last; a later cue writes over an earlier value. -/
def State.tracked (s : State) (cs : List Cue) : List Want :=
  cs.foldl (fun t c => (s.cueWants c).foldl (fun u w => putBy Want.key w u) t) []

/-- R42, R46: the slots a take needs: the values for which the layer holds no slot. -/
def slotsNeeded (slots : List Slot) (ws : List Want) : Nat :=
  (ws.filter (fun w => (slotFor slots w.head w.attr).isNone)).length

/-- R43: the fade time of an attribute. -/
def Cue.fade (c : Cue) : Attr → Nat
  | .pan => c.moveMs
  | .tilt => c.moveMs
  | .intensity => c.fadeMs
  | .colour => c.colourMs

/-- R43: the value a take starts from: the slot's current value, or the head's merged target as it stands. -/
def State.startValue (s : State) (slots : List Slot) (w : Want) : Val :=
  match slotFor slots w.head w.attr with
  | some x => x.value
  | none => s.mergedTarget w.head w.attr

/-- R43, R47: the slot a take makes of a value. -/
def State.takenSlot (s : State) (slots : List Slot) (c : Cue) (w : Want) : Slot where
  head := w.head
  attr := w.attr
  fromVal := s.startValue slots w
  toVal := w.value
  delayMs := c.delayMs
  fadeMs := c.fade w.attr
  elapsedMs := 0
  mark := .none

/-- R43: the slots after the values given are taken; every start value is read from the state before the take. -/
def State.takenSlots (s : State) (before : List Slot) (c : Cue) (ws : List Want) (onto : List Slot) : List Slot :=
  ws.foldl (fun u w => putBy Slot.key (s.takenSlot before c w) u) onto

/-- A slot frozen at its current value (R47, R51). -/
def Slot.frozen (x : Slot) (m : ReleaseMark) : Slot :=
  { x with fromVal := x.value, toVal := x.value, delayMs := 0, fadeMs := 0, elapsedMs := 0, mark := m }

/-- An INTENSITY slot re-based to fade to 0 (R47, R51). -/
def Slot.fadedOut (x : Slot) (delayMs fadeMs : Nat) (m : ReleaseMark) : Slot :=
  { x with fromVal := x.value, toVal := .scalar 0, delayMs := delayMs, fadeMs := fadeMs, elapsedMs := 0, mark := m }

/-- R47: the release slot a GOTO makes of a slot outside its target. -/
def Slot.releasedBy (c : Cue) (x : Slot) : Slot :=
  if x.attr = .intensity then x.fadedOut c.delayMs c.fadeMs .fadeOut else x.frozen .hold

/-- R47: the slot is named by the tracked target. -/
def Slot.named (ws : List Want) (x : Slot) : Bool :=
  ws.any (fun w => w.head == x.head && w.attr == x.attr)

/-- R47: the slots after a GOTO. -/
def State.gotoSlots (s : State) (before : List Slot) (c : Cue) (ws : List Want) : List Slot :=
  s.takenSlots before c ws (before.map (fun x => if x.named ws then x else x.releasedBy c))

/-- R44: the layer after an accepted take. -/
def Layer.afterTake (y : Layer) (c : Cue) (slots : List Slot) : Layer :=
  { y with
    state := .running
    pausedFrom := none
    chaseCount := 0
    currentCue := some c.number
    followMs := c.followMs
    refusedTarget := none
    slots := slots }

/-- R40: the layer moves to the top of the take stack. -/
def State.toTop (s : State) (l : Nat) : State :=
  { s with playback.takeStack := s.playback.takeStack.erase l ++ [l] }

/-- R44: an accepted take written. -/
def State.writeTake (s : State) (l : Nat) (c : Cue) (slots : List Slot) : State :=
  (s.setLayer l ((s.layer l).afterTake c slots)).toTop l

/-- What a take reports (R44, R47). -/
structure TakeInfo where
  cue : Nat
  created : Nat
  rebased : Nat
  released : Nat
  skipped : Nat
deriving DecidableEq, Repr

/-- The outcome of a take: refused with a status and the cue number aimed at, or taken. -/
inductive TakeResult
  | refused (status : Status) (cue : Option Nat)
  | taken (s : State) (info : TakeInfo)

/-- R42 to R44: a take of a cue by a layer. -/
def State.takeCue (s : State) (l : Nat) (c : Cue) : TakeResult :=
  let held := (s.layer l).slots
  let ws := s.cueWants c
  let need := slotsNeeded held ws
  if s.freeSlots < need then .refused .slotPoolFull (some c.number)
  else .taken (s.writeTake l c (s.takenSlots held c ws held))
    ⟨c.number, need, ws.length - need, 0, s.skipped c⟩

/-- R46, R47: a GOTO of a cue by a layer, given the cues of its list. That the slots re-based which the reply counts are those held for
pairs of the tracked target, and not also the INTENSITY slots that become release slots, is this model's choice
(notes/assumptions/25.md). -/
def State.gotoCue (s : State) (l : Nat) (cs : List Cue) (c : Cue) : TakeResult :=
  let held := (s.layer l).slots
  let upTo := cs.filter (fun d => decide (d.number ≤ c.number))
  let ws := s.tracked upTo
  let need := slotsNeeded held ws
  if s.freeSlots < need then .refused .slotPoolFull (some c.number)
  else .taken (s.writeTake l c (s.gotoSlots held c ws))
    ⟨c.number, need, ws.length - need, (held.filter (fun x => !x.named ws)).length,
      total (upTo.map s.skipped)⟩

/-- The cues of the list assigned to a layer; none when no list is assigned. -/
def State.layerCues (s : State) (l : Nat) : List Cue :=
  match (s.layer l).settings.list with
  | none => []
  | some n =>
    match s.list n with
    | none => []
    | some cl => cl.cues

/-- R41: the next cue; a CHASE layer wraps. -/
def Layer.nextCue (y : Layer) (cs : List Cue) : Option Cue :=
  match y.currentCue with
  | none => cs.head?
  | some n =>
    match cs.find? (fun c => decide (n < c.number)) with
    | some c => some c
    | none => if y.settings.mode = .chase then cs.head? else none

/-- R41: a GO, from any source. -/
def State.goTake (s : State) (l : Nat) : TakeResult :=
  if s.loading then .refused .storeBusy none
  else if Config.layers ≤ l then .refused .badField none
  else if (s.layerCues l).isEmpty then .refused .noList none
  else
    match (s.layer l).nextCue (s.layerCues l) with
    | none => .refused .endOfList none
    | some c => s.takeCue l c

/-- R46: a GOTO. -/
def State.gotoTake (s : State) (l n : Nat) : TakeResult :=
  if s.loading then .refused .storeBusy (some n)
  else if Config.layers ≤ l ∨ n = 0 then .refused .badField (some n)
  else if (s.layerCues l).isEmpty then .refused .noList (some n)
  else
    match (s.layerCues l).find? (fun c => c.number == n) with
    | none => .refused .notFound (some n)
    | some c => s.gotoCue l (s.layerCues l) c

/-! ## Takes of other sources (R45, R48, R49, R56) -/

/-- R56: a GO with source FOLLOW or CHASE, reported by its notice. -/
def State.reportedGo (s : State) (l : Nat) (source : TakeSource) : State :=
  match s.goTake l with
  | .refused status cue => s.notify (.takeFailed l source none status cue)
  | .taken s' info => s'.notify (.cueTaken l info.cue source .go)

/-- R39, R45: the layer is RUNNING or SETTLED. -/
def Layer.counts (y : Layer) : Bool :=
  decide (y.state = .running) || decide (y.state = .settled)

/-- R45: the follow countdown becomes absent and the layer makes a follow take. -/
def State.followTake (s : State) (l : Nat) : State :=
  (s.setLayer l { s.layer l with followMs := none }).reportedGo l .follow

/-- R48: the beat count returns to 0 and the layer makes a chase take. -/
def State.chaseTake (s : State) (l : Nat) : State :=
  (s.setLayer l { s.layer l with chaseCount := 0 }).reportedGo l .chase

/-- R48: a layer that counts beats: CHASE mode, RUNNING or SETTLED. -/
def Layer.chases (y : Layer) : Bool :=
  decide (y.settings.mode = .chase) && y.counts

/-- R48: the layer's next beat brings its count to its chase beats. -/
def Layer.chaseDue (y : Layer) : Bool :=
  y.chases && decide (y.settings.chaseBeats ≤ y.chaseCount + 1)

/-- R48: a beat event counted by a layer. -/
def State.beatLayer (s : State) (l : Nat) : State :=
  let y := s.layer l
  if y.chaseDue then s.chaseTake l
  else if y.chases then s.setLayer l { y with chaseCount := y.chaseCount + 1 }
  else s

/-- R48: a beat event reaches the CHASE layers, ascending, while show time runs. -/
def State.beatLayers (s : State) : State :=
  if s.showTime then layerIds.foldl State.beatLayer s else s

/-- R49: the target of a timecode frame: the last cue whose tc_frame is present and at or below it. -/
def timecodeTarget (cs : List Cue) (f : Nat) : Option Cue :=
  (cs.filter (fun c => c.tcFrame.any (fun x => decide (x ≤ f)))).getLast?

/-- R49: the timecode successor of the current cue. -/
def Layer.timecodeSuccessor (y : Layer) (cs : List Cue) : Option Cue :=
  cs.find? (fun c => c.tcFrame.isSome && y.currentCue.all (fun n => decide (n < c.number)))

/-- R49: a timecode take of a target by the layer, with its kind. -/
def State.timecodeTake (s : State) (l : Nat) (c : Cue) : TakeResult × TakeKind :=
  if ((s.layer l).timecodeSuccessor (s.layerCues l)).map Cue.number = some c.number then
    (if s.loading then .refused .storeBusy (some c.number) else s.takeCue l c, .go)
  else (s.gotoTake l c.number, .goto)

/-- R49: the outcome of a timecode take, a repeated refusal kept silent. -/
def State.reportTimecode (s : State) (l n : Nat) : TakeResult × TakeKind → State
  | (.taken s' info, kind) => s'.notify (.cueTaken l info.cue .timecode kind)
  | (.refused status _, _) =>
    if (s.layer l).refusedTarget = some n then s
    else
      (s.setLayer l { s.layer l with refusedTarget := some n }).notify
        (.takeFailed l .timecode none status (some n))

/-- R49: a timecode frame reaches a layer. -/
def State.timecodeLayer (f : Nat) (s : State) (l : Nat) : State :=
  if (s.layer l).settings.mode = .timecode then
    match timecodeTarget (s.layerCues l) f with
    | none => s
    | some c =>
      if (s.layer l).currentCue = some c.number then s
      else s.reportTimecode l c.number (s.timecodeTake l c)
  else s

/-- R49: a timecode frame reaches the TIMECODE layers, ascending, while show time runs and the receiver is LOCKED. -/
def State.timecodeLayers (s : State) (f : Nat) : State :=
  if s.showTime && s.inputs.timecode.locked then layerIds.foldl (State.timecodeLayer f) s else s

/-! ## The layer step (R39) -/

/-- R39 step 1 for a slot. -/
def Slot.advance (x : Slot) : Slot :=
  if x.complete then x
  else { x with elapsedMs := min (x.elapsedMs + Config.stepMs) (x.delayMs + x.fadeMs) }

/-- R39 step 1. -/
def Layer.advance (y : Layer) : Layer :=
  if y.state = .running ∨ y.state = .releasing then { y with slots := y.slots.map Slot.advance } else y

/-- R39 step 2. -/
def Layer.dropFadeOuts (y : Layer) : Layer :=
  if y.state = .running then
    { y with slots := y.slots.filter (fun x => !(x.complete && decide (x.mark = .fadeOut))) }
  else y

/-- R39 step 3. -/
def Layer.settle (y : Layer) : Layer :=
  if y.state = .running ∧ y.slots.all Slot.complete then
    { y with state := .settled, slots := y.slots.filter (fun x => !decide (x.mark = .hold)) }
  else y

/-- R52, R53: the layer IDLE, its slots removed. -/
def Layer.cleared (y : Layer) : Layer :=
  { y with
    state := .idle
    pausedFrom := none
    chaseCount := 0
    currentCue := none
    followMs := none
    refusedTarget := none
    slots := [] }

/-- R52, R53: the layer becomes IDLE and leaves the take stack. -/
def State.clearLayer (s : State) (l : Nat) : State :=
  let s' := s.setLayer l (s.layer l).cleared
  { s' with playback.takeStack := s'.playback.takeStack.erase l }

/-- R52: every INTENSITY slot the layer holds is complete. -/
def Layer.released (y : Layer) : Bool :=
  y.slots.all (fun x => decide (x.attr ≠ .intensity) || x.complete)

/-- R39 step 4. -/
def State.finishRelease (s : State) (l : Nat) : State :=
  if (s.layer l).state = .releasing ∧ (s.layer l).released then s.clearLayer l else s

/-- R45: the layer's next step brings its follow countdown to 0 or below. -/
def Layer.followDue (y : Layer) : Bool :=
  y.counts && y.followMs.any (fun f => decide (f ≤ Config.stepMs))

/-- R39 step 5. -/
def State.countFollow (s : State) (l : Nat) : State :=
  if (s.layer l).followDue then s.followTake l
  else if (s.layer l).counts then
    s.setLayer l { s.layer l with followMs := (s.layer l).followMs.map (· - Config.stepMs) }
  else s

/-- R39: the step of one layer. -/
def State.stepLayer (s : State) (l : Nat) : State :=
  ((s.setLayer l (s.layer l).advance.dropFadeOuts.settle).finishRelease l).countFollow l

/-- R39: the layer step: each layer in turn, ascending, while show time runs; the timer runs on. -/
def State.layerStep (s : State) : State :=
  let s1 := { s with playback.stepTimer := s.now + Config.stepUs }
  if s1.showTime then layerIds.foldl State.stepLayer s1 else s1

/-- LAYER_STEP (R39). -/
def execLayerStep (t : Nat) (s : State) : Host.Outcome State Fault Refusal :=
  command t State.layerStep s

/-- R45: a follow countdown that a step, taken while show time runs, brings to 0 or below. Where none does, nothing changes
(notes/assumptions/2.md). -/
def State.followExpiry (s : State) (l : Nat) : State :=
  if s.showTime && (s.layer l).followDue then s.followTake l else s

/-- FOLLOW_EXPIRY (R45). -/
def execFollowExpiry (t : Nat) (layer : Fin 12) (s : State) : Host.Outcome State Fault Refusal :=
  command t (fun u => u.followExpiry layer.val) s

/-- R48: a beat count that a beat, taken while show time runs, brings to the chase beats. Where none does, nothing changes
(notes/assumptions/2.md). -/
def State.chaseExpiry (s : State) (l : Nat) : State :=
  if s.showTime && (s.layer l).chaseDue then s.chaseTake l else s

/-- CHASE_COUNT_EXPIRY (R48). -/
def execChaseCountExpiry (t : Nat) (layer : Fin 12) (s : State) : Host.Outcome State Fault Refusal :=
  command t (fun u => u.chaseExpiry layer.val) s

/-! ## Pause, resume, release and kill -/

/-- R50: what PAUSE records; `none` where it is refused. -/
def LayerState.pausable : LayerState → Option PausedFrom
  | .running => some .running
  | .releasing => some .releasing
  | .idle => none
  | .settled => none
  | .paused => none

/-- R50: the state a RESUME returns to. -/
def PausedFrom.state : PausedFrom → LayerState
  | .running => .running
  | .releasing => .releasing

/-- R50: PAUSE; `none` is WRONG_STATE. -/
def State.pauseLayer (s : State) (l : Nat) : Option State :=
  (s.layer l).state.pausable.map (fun f =>
    s.setLayer l { s.layer l with state := .paused, pausedFrom := some f })

/-- R50: RESUME; `none` is WRONG_STATE. -/
def State.resumeLayer (s : State) (l : Nat) : Option State :=
  if (s.layer l).state = .paused then
    (s.layer l).pausedFrom.map (fun f =>
      s.setLayer l { s.layer l with state := f.state, pausedFrom := none })
  else none

/-- R51: a slot as a RELEASE treats it. -/
def Slot.released (ms : Nat) (x : Slot) : Slot :=
  if x.attr = .intensity then x.fadedOut 0 ms .none else x.frozen .none

/-- R51: RELEASE; `none` is WRONG_STATE. -/
def State.releaseLayer (s : State) (l : Nat) : Option State :=
  let y := s.layer l
  if y.state = .idle then none
  else some (s.setLayer l { y with
    state := .releasing
    pausedFrom := none
    followMs := none
    slots := y.slots.map (Slot.released y.settings.releaseMs) })

/-- The INTENSITY slots a layer holds. -/
def Layer.intensitySlots (y : Layer) : Nat :=
  (y.slots.filter (fun x => decide (x.attr = .intensity))).length

/-! ## Console requests of the layers -/

/-- GO (R41 to R44). -/
def ownGo (l : Nat) : Owner := fun _ s =>
  match s.goTake l with
  | .refused status _ => refuse status s
  | .taken s' i => accept s' (.took i.cue i.created i.rebased i.skipped s'.freeSlots)

/-- GOTO (R46, R47). -/
def ownGoto (l n : Nat) : Owner := fun _ s =>
  match s.gotoTake l n with
  | .refused status _ => refuse status s
  | .taken s' i => accept s' (.wentTo i.cue i.created i.rebased i.released i.skipped s'.freeSlots)

/-- The reply of PAUSE and RESUME: the layer's state after the request (R50). -/
def layerStateReply (l : Nat) (s : State) : Option State → State × Answer
  | some s' => accept s' (.layerState (s'.layer l).state)
  | none => (s, .reply .wrongState (.layerState (s.layer l).state))

/-- PAUSE (R50). -/
def ownPause (l : Nat) : Owner := fun _ s =>
  if Config.layers ≤ l then refuse .badField s else layerStateReply l s (s.pauseLayer l)

/-- RESUME (R50). -/
def ownResume (l : Nat) : Owner := fun _ s =>
  if Config.layers ≤ l then refuse .badField s else layerStateReply l s (s.resumeLayer l)

/-- RELEASE (R51). -/
def ownRelease (l : Nat) : Owner := fun _ s =>
  if Config.layers ≤ l then refuse .badField s
  else
    match s.releaseLayer l with
    | some s' => accept s' (.rebased (s.layer l).intensitySlots)
    | none => refuse .wrongState s

/-- KILL (R53). -/
def ownKill (l : Nat) : Owner := fun _ s =>
  if Config.layers ≤ l then refuse .badField s
  else accept (s.clearLayer l) (.removed (s.layer l).slots.length)

/-- R54: a settings request that replaces one setting, valid in every layer state. -/
def ownLayerSetting (l : Nat) (clamped : Bool) (f : LayerSettings → LayerSettings) : Owner := fun _ s =>
  if s.loading then refuse .storeBusy s
  else if Config.layers ≤ l then refuse .badField s
  else
    (s.setLayer l { s.layer l with settings := f (s.layer l).settings }, .reply (okOrClamped clamped) .bare)

/-- SET INTENSITY MODE (R54), with a code that may name no mode. -/
def ownIntensityMode (l : Nat) (mode : Option IntensityMode) : Owner := fun tag s =>
  match mode with
  | some m => ownLayerSetting l false (fun c => { c with intensityMode := m }) tag s
  | none => if s.loading then refuse .storeBusy s else refuse .badField s

/-- SET LAYER MODE (R55). -/
def ownLayerMode (l : Nat) (mode : Option LayerMode) : Owner := fun _ s =>
  if s.loading then refuse .storeBusy s
  else
    match mode with
    | none => refuse .badField s
    | some m =>
      if Config.layers ≤ l then refuse .badField s
      else if (s.layer l).state ≠ .idle then refuse .wrongState s
      else
        accept (s.setLayer l { s.layer l with settings.mode := m, chaseCount := 0 }) .bare

/-- ASSIGN LIST (R55). -/
def ownAssignList (l : Nat) (list : Option Nat) : Owner := fun _ s =>
  if s.loading then refuse .storeBusy s
  else if Config.layers ≤ l ∨ list.any (fun n => decide (Config.cueLists ≤ n)) then refuse .badField s
  else if (s.layer l).state ≠ .idle then refuse .wrongState s
  else if list.any (fun n => (s.list n).isNone) then refuse .notFound s
  else accept (s.setLayer l { s.layer l with settings.list := list }) .bare

/-- R57: what READ LAYER reports. -/
def State.layerReport (s : State) (l : Nat) : LayerReport :=
  let y := s.layer l
  { state := y.state
    pausedFrom := y.pausedFrom
    settings := y.settings
    currentCue := y.currentCue
    followMs := y.followMs
    chaseCount := y.chaseCount
    refusedTarget := y.refusedTarget
    slots := y.slots.length
    releaseSlots := (y.slots.filter (fun x => decide (x.mark ≠ .none))).length
    position := placeIn s.playback.takeStack l
    freeSlots := s.freeSlots }

/-- READ LAYER (R57). -/
def ownReadLayer (l : Nat) : Owner := fun _ s =>
  if Config.layers ≤ l then refuse .badField s else accept s (.layer (s.layerReport l))

/-- GO (R41). -/
def execGo (t : Nat) (tag : Byte) (layer : Nat) (s : State) : Host.Outcome State Fault Refusal :=
  request t tag 0x30#8 (ownGo layer) s

/-- GOTO (R46). -/
def execGoto (t : Nat) (tag : Byte) (layer : Nat) (number : BitVec 16) (s : State) :
    Host.Outcome State Fault Refusal :=
  request t tag 0x31#8 (ownGoto layer number.toNat) s

/-- PAUSE (R50). -/
def execPause (t : Nat) (tag : Byte) (layer : Nat) (s : State) : Host.Outcome State Fault Refusal :=
  request t tag 0x32#8 (ownPause layer) s

/-- RESUME (R50). -/
def execResume (t : Nat) (tag : Byte) (layer : Nat) (s : State) : Host.Outcome State Fault Refusal :=
  request t tag 0x33#8 (ownResume layer) s

/-- RELEASE (R51). -/
def execRelease (t : Nat) (tag : Byte) (layer : Nat) (s : State) : Host.Outcome State Fault Refusal :=
  request t tag 0x34#8 (ownRelease layer) s

/-- KILL (R53). -/
def execKill (t : Nat) (tag : Byte) (layer : Nat) (s : State) : Host.Outcome State Fault Refusal :=
  request t tag 0x35#8 (ownKill layer) s

/-- SET MASTER's owner (R54). -/
def ownMaster (l : Nat) (master : Level) : Owner :=
  ownLayerSetting l false (fun c => { c with master := master.toNat })

/-- SET PRECEDENCE's owner (R54). -/
def ownPrecedence (l : Nat) (v : Int) : Owner :=
  ownLayerSetting l (clamps 1 15 v) (fun c => { c with precedence := clamp 1 15 v })

/-- SET RELEASE TIME's owner (R54). -/
def ownReleaseTime (l : Nat) (v : Int) : Owner :=
  ownLayerSetting l (clamps 0 Config.maxMs v) (fun c => { c with releaseMs := clamp 0 Config.maxMs v })

/-- SET CHASE BEATS' owner (R54). -/
def ownChaseBeats (l : Nat) (v : Int) : Owner :=
  ownLayerSetting l (clamps 1 64 v) (fun c => { c with chaseBeats := clamp 1 64 v })

/-- SET_MASTER (R54). -/
def execSetMaster (t : Nat) (tag : Byte) (layer : Nat) (master : Level) (s : State) :
    Host.Outcome State Fault Refusal :=
  request t tag 0x36#8 (ownMaster layer master) s

/-- SET_PRECEDENCE (R54). -/
def execSetPrecedence (t : Nat) (tag : Byte) (layer : Nat) (precedence : Int) (s : State) :
    Host.Outcome State Fault Refusal :=
  request t tag 0x37#8 (ownPrecedence layer precedence) s

/-- SET_INTENSITY_MODE (R54). -/
def execSetIntensityMode (t : Nat) (tag : Byte) (layer : Nat) (mode : Option IntensityMode) (s : State) :
    Host.Outcome State Fault Refusal :=
  request t tag 0x38#8 (ownIntensityMode layer mode) s

/-- SET_RELEASE_TIME (R54). -/
def execSetReleaseTime (t : Nat) (tag : Byte) (layer : Nat) (ms : Int) (s : State) :
    Host.Outcome State Fault Refusal :=
  request t tag 0x39#8 (ownReleaseTime layer ms) s

/-- SET_CHASE_BEATS (R54). -/
def execSetChaseBeats (t : Nat) (tag : Byte) (layer : Nat) (beats : Int) (s : State) :
    Host.Outcome State Fault Refusal :=
  request t tag 0x3A#8 (ownChaseBeats layer beats) s

/-- SET_LAYER_MODE (R55). -/
def execSetLayerMode (t : Nat) (tag : Byte) (layer : Nat) (mode : Option LayerMode) (s : State) :
    Host.Outcome State Fault Refusal :=
  request t tag 0x3B#8 (ownLayerMode layer mode) s

/-- ASSIGN_LIST (R55). -/
def execAssignList (t : Nat) (tag : Byte) (layer : Nat) (list : Option Nat) (s : State) :
    Host.Outcome State Fault Refusal :=
  request t tag 0x3C#8 (ownAssignList layer list) s

/-- READ_LAYER (R57). -/
def execReadLayer (t : Nat) (tag : Byte) (layer : Nat) (s : State) : Host.Outcome State Fault Refusal :=
  request t tag 0x3D#8 (ownReadLayer layer) s

end Sys2Proof.Machine
end

