-- ==== Sys2Proof/Machine/CueMemory.lean ====
section
/-! DEFINITION. Cue memory (02): lists and locks (R22, R23), storing and appending (R25 to R28), deleting (R29, R30) and
reading (R32, R33). -/

namespace Sys2Proof.Machine

open Sys2Proof

/-! ## Lists -/

/-- R22: the first check of CREATE LIST that fails. -/
def State.checkCreateList (s : State) (n : Nat) : Option Status :=
  if s.storeBusy then some .storeBusy
  else if Config.cueLists ≤ n then some .badField
  else if (s.list n).isSome then some .duplicate
  else none

/-- CREATE LIST (R22): created, unlocked and empty. -/
def ownCreateList (n : Nat) : Owner := fun _ s =>
  match s.checkCreateList n with
  | some status => refuse status s
  | none => accept (s.setList n (some ⟨false, []⟩)) .bare

/-- SET LIST LOCK (R23). -/
def ownSetListLock (n : Nat) (lock : Option Bool) : Owner := fun _ s =>
  if s.storeBusy then refuse .storeBusy s
  else
    match lock with
    | none => refuse .badField s
    | some v =>
      if Config.cueLists ≤ n then refuse .badField s
      else
        match s.list n with
        | none => refuse .notFound s
        | some cl => accept (s.setList n (some { cl with locked := v })) .bare

/-! ## Storing -/

/-- R27: the cue of a number in a list. -/
def CueList.cue (cl : CueList) (number : Nat) : Option Cue :=
  cl.cues.find? (fun c => c.number == number)

/-- R27: a cue put at its place in the list's order, over the cue of its number. -/
def CueList.putCue (cl : CueList) (c : Cue) : CueList :=
  { cl with cues := putBy Cue.number c cl.cues }

/-- R20, R27: entries put at their places in ascending head order, each over the entry for its head. -/
def putEntries (es : List EntryReq) (onto : List Entry) : List Entry :=
  es.foldl (fun u e => putBy Entry.head (storedEntry e) u) onto

/-- R26: the stored cue: the request's values after the clamps, its entries in ascending head order. -/
def storedCue (c : CueReq) : Cue where
  number := c.number.toNat
  fadeMs := clamp 0 Config.maxMs c.fadeMs
  moveMs := clamp 0 Config.maxMs c.moveMs
  colourMs := clamp 0 Config.maxMs c.colourMs
  delayMs := clamp 0 Config.maxMs c.delayMs
  followMs := c.followMs.map (clamp 0 Config.maxMs)
  tcFrame := c.tcFrame.map (clamp 0 Config.maxFrame)
  entries := putEntries c.entries []

/-- R26: whether a field is clamped. -/
def cueClamps (c : CueReq) : Bool :=
  clamps 0 Config.maxMs c.fadeMs || clamps 0 Config.maxMs c.moveMs || clamps 0 Config.maxMs c.colourMs
    || clamps 0 Config.maxMs c.delayMs || c.followMs.any (clamps 0 Config.maxMs)
    || c.tcFrame.any (clamps 0 Config.maxFrame) || c.entries.any entryClamps

/-- R25 check 2: an entry whose head id is out of range or that has no presence mark. -/
def entryBad (e : EntryReq) : Bool :=
  decide (Config.heads ≤ e.head) || !entryMarked e

/-- R25 check 3: two entries name the same head. -/
def entriesCollide (es : List EntryReq) : Bool :=
  !decide ((es.map EntryReq.head).Nodup)

/-- R25 and R28, check 2: a field that is refused BAD_FIELD. -/
def cueFieldsBad (list : Nat) (number : BitVec 16) (es : List EntryReq) (stray : Bool) : Bool :=
  decide (Config.cueLists ≤ list) || decide (number = 0#16) || es.isEmpty || es.any entryBad || stray

/-- R27: the pools cannot hold a cue of `n` entries stored over the one given, counted net. -/
def State.cueTooLarge (s : State) (old : Option Cue) (n : Nat) : Bool :=
  match old with
  | none => decide (s.freeCues < 1) || decide (s.freeEntries < n)
  | some c => decide (s.freeEntries + c.entries.length < n)

/-- The reply of an edit that stores a cue (R27). -/
def State.storedReply (s : State) (n : Nat) (replaced : Bool) : ReplyBody :=
  .storedCue replaced ((s.list n).elim 0 (fun cl => cl.cues.length)) s.freeCues s.freeEntries

/-- STORE CUE (R25 to R27). -/
def ownStoreCue (c : CueReq) : Owner := fun _ s =>
  if s.storeBusy then refuse .storeBusy s
  else if cueFieldsBad c.list c.number c.entries c.strayMark then refuse .badField s
  else if entriesCollide c.entries then refuse .duplicate s
  else
    match s.list c.list with
    | none => refuse .notFound s
    | some cl =>
      if cl.locked then refuse .listLocked s
      else if s.cueTooLarge (cl.cue c.number.toNat) c.entries.length then refuse .noSpace s
      else
        let s' := s.setList c.list (some (cl.putCue (storedCue c)))
        (s', .reply (okOrClamped (cueClamps c)) (s'.storedReply c.list (cl.cue c.number.toNat).isSome))

/-- R28: entries of a request that name heads the cue has no entry for. -/
def Cue.newHeads (c : Cue) (es : List EntryReq) : Nat :=
  (es.filter (fun e => !c.entries.any (fun x => x.head == e.head))).length

/-- APPEND ENTRIES (R28). -/
def ownAppendEntries (list : Nat) (number : BitVec 16) (es : List EntryReq) (stray : Bool) : Owner := fun _ s =>
  if s.storeBusy then refuse .storeBusy s
  else if cueFieldsBad list number es stray then refuse .badField s
  else if entriesCollide es then refuse .duplicate s
  else
    match s.list list with
    | none => refuse .notFound s
    | some cl =>
      match cl.cue number.toNat with
      | none => refuse .notFound s
      | some c =>
        if cl.locked then refuse .listLocked s
        else if s.freeEntries < c.newHeads es then refuse .noSpace s
        else
          let c' : Cue := { c with entries := putEntries es c.entries }
          let s' := s.setList list (some (cl.putCue c'))
          (s', .reply (okOrClamped (es.any entryClamps))
            (.appended (c.newHeads es) (es.length - c.newHeads es) c'.entries.length s'.freeEntries))

/-! ## Deleting -/

/-- DELETE CUE (R29). -/
def ownDeleteCue (list : Nat) (number : BitVec 16) : Owner := fun _ s =>
  if s.storeBusy then refuse .storeBusy s
  else if Config.cueLists ≤ list ∨ number = 0#16 then refuse .badField s
  else
    match s.list list with
    | none => refuse .notFound s
    | some cl =>
      if (cl.cue number.toNat).isNone then refuse .notFound s
      else if cl.locked then refuse .listLocked s
      else
        let cs := cl.cues.filter (fun c => c.number != number.toNat)
        let s' := s.setList list (some { cl with cues := cs })
        accept s' (.deletedCue cs.length s'.freeCues s'.freeEntries)

/-- R30: the layers assigned a list. -/
def State.assignedTo (s : State) (n : Nat) : List Nat :=
  layerIds.filter (fun l => (s.layer l).settings.list == some n)

/-- R30: the assignments of layers cleared. -/
def State.clearAssignments (s : State) (ls : List Nat) : State :=
  ls.foldl (fun u l => u.setLayer l { u.layer l with settings.list := none }) s

/-- DELETE LIST (R30). -/
def ownDeleteList (n : Nat) : Owner := fun _ s =>
  if s.storeBusy then refuse .storeBusy s
  else if Config.cueLists ≤ n then refuse .badField s
  else
    match s.list n with
    | none => refuse .notFound s
    | some cl =>
      if cl.locked then refuse .listLocked s
      else if (s.assignedTo n).any (fun l => decide ((s.layer l).state ≠ .idle)) then refuse .wrongState s
      else
        let s' := (s.setList n none).clearAssignments (s.assignedTo n)
        accept s' (.deletedList cl.cues.length (entryCount cl.cues) (s.assignedTo n).length s'.freeCues s'.freeEntries)

/-! ## Reading -/

/-- R32: the summary of a cue. -/
def Cue.summary (c : Cue) : CueSummary :=
  ⟨c.number, c.entries.length, c.followMs, c.tcFrame⟩

/-- R32: the summaries one READ LIST gives at most. -/
def maxSummaries : Nat := 64

/-- R32: what READ LIST reports. -/
def State.listReport (s : State) (n start : Nat) : ListReport :=
  match s.list n with
  | none => .free
  | some cl =>
    let rest := cl.cues.filter (fun c => decide (start ≤ c.number))
    .created cl.locked cl.cues.length (entryCount cl.cues) ((rest.take maxSummaries).map Cue.summary)
      (decide (maxSummaries < rest.length))

/-- READ LIST (R32). -/
def ownReadList (n : Nat) (start : BitVec 16) : Owner := fun _ s =>
  if Config.cueLists ≤ n then refuse .badField s else accept s (.list (s.listReport n start.toNat))

/-- R33: bytes a READ CUE reply leaves for entries. -/
def cueReplyRoom : Nat := 992

/-- R33: as many whole entries as fit into the room, and the head of the first that does not. -/
def fitEntries : Nat → List Entry → List Entry × Option Nat
  | _, [] => ([], none)
  | room, e :: es =>
    if e.size ≤ room then
      let r := fitEntries (room - e.size) es
      (e :: r.1, r.2)
    else ([], some e.head)

/-- R33: what READ CUE reports. -/
def Cue.report (c : Cue) (startHead : Nat) : CueReport :=
  let fit := fitEntries cueReplyRoom (c.entries.filter (fun e => decide (startHead ≤ e.head)))
  ⟨{ c with entries := fit.1 }, c.entries.length, fit.2⟩

/-- READ CUE (R33). -/
def ownReadCue (n : Nat) (number : BitVec 16) (startHead : Nat) : Owner := fun _ s =>
  if Config.cueLists ≤ n ∨ number = 0#16 ∨ Config.heads ≤ startHead then refuse .badField s
  else
    match (s.list n).bind (fun cl => cl.cue number.toNat) with
    | none => refuse .notFound s
    | some c => accept s (.cue (c.report startHead))

/-! ## The commands -/

/-- CREATE_LIST (R22). -/
def execCreateList (t : Nat) (tag : Byte) (list : Nat) (s : State) : Host.Outcome State Fault Refusal :=
  request t tag 0x20#8 (ownCreateList list) s

/-- SET_LIST_LOCK (R23). -/
def execSetListLock (t : Nat) (tag : Byte) (list : Nat) (lock : Option Bool) (s : State) :
    Host.Outcome State Fault Refusal :=
  request t tag 0x21#8 (ownSetListLock list lock) s

/-- STORE_CUE (R25). -/
def execStoreCue (t : Nat) (tag : Byte) (c : CueReq) (s : State) : Host.Outcome State Fault Refusal :=
  request t tag 0x22#8 (ownStoreCue c) s

/-- APPEND_ENTRIES (R28). -/
def execAppendEntries (t : Nat) (tag : Byte) (list : Nat) (number : BitVec 16) (entries : List EntryReq)
    (strayMark : Bool) (s : State) : Host.Outcome State Fault Refusal :=
  request t tag 0x23#8 (ownAppendEntries list number entries strayMark) s

/-- DELETE_CUE (R29). -/
def execDeleteCue (t : Nat) (tag : Byte) (list : Nat) (number : BitVec 16) (s : State) :
    Host.Outcome State Fault Refusal :=
  request t tag 0x24#8 (ownDeleteCue list number) s

/-- DELETE_LIST (R30). -/
def execDeleteList (t : Nat) (tag : Byte) (list : Nat) (s : State) : Host.Outcome State Fault Refusal :=
  request t tag 0x25#8 (ownDeleteList list) s

/-- READ_LIST (R32). -/
def execReadList (t : Nat) (tag : Byte) (list : Nat) (start : BitVec 16) (s : State) :
    Host.Outcome State Fault Refusal :=
  request t tag 0x26#8 (ownReadList list start) s

/-- READ_CUE (R33). -/
def execReadCue (t : Nat) (tag : Byte) (list : Nat) (number : BitVec 16) (startHead : Nat) (s : State) :
    Host.Outcome State Fault Refusal :=
  request t tag 0x27#8 (ownReadCue list number startHead) s

end Sys2Proof.Machine
end

