-- ==== Sys2Proof/Machine/PatchTable.lean ====
section
/-! DEFINITION. The patch (01): personalities (R2 to R5), patching and re-patching (R7 to R10), head settings and limits
(R11, R12), unpatching with what every owner drops (R13 to R15), and groups (R16). -/

namespace Sys2Proof.Machine

open Sys2Proof

/-! ## Personalities -/

/-- R1, R3: the offsets a role entry of a request occupies. -/
def roleSlots (r : RoleReq) : List Nat :=
  if r.width = 16 then [r.offset, r.offset + 1] else [r.offset]

/-- R3: how often a role is present. -/
def roleCount (rs : List RoleReq) (r : Role) : Nat :=
  (rs.filter (fun x => x.role == some r)).length

/-- R3: a role is given this width wherever it is present. -/
def roleWidth (rs : List RoleReq) (r : Role) (w : Nat) : Bool :=
  rs.all (fun x => x.role != some r || x.width == w)

/-- R3: an entry whose role is named, whose offset and width are allowed, and whose slots lie in the window. R3 tests no role's
name; a code that names none is refused here, at the check of the channel map (R2 check 4, R169), and so after IN_USE: the model's
choice (notes/assumptions/4.md). -/
def roleFits (x : RoleReq) : Bool :=
  x.role.isSome && decide (x.offset < 40) && (x.width == 8 || x.width == 16)
    && !(x.width == 16 && x.offset == 39)

/-- R3: the structural checks of a channel map. -/
def mapFits (rs : List RoleReq) : Bool :=
  decide (1 ≤ rs.length ∧ rs.length ≤ 40) && rs.all roleFits && decide ((rs.flatMap roleSlots).Nodup)
    && roleCount rs .pan == 1 && roleCount rs .tilt == 1 && roleWidth rs .pan 16 && roleWidth rs .tilt 16
    && decide (roleCount rs .shutter ≤ 1) && roleWidth rs .shutter 8
    && [Role.dimmer, .emitter1, .emitter2, .emitter3, .emitter4, .cyan, .magenta, .yellow].all
      (fun r => decide (roleCount rs r ≤ 1))

/-- R4: the colour roles a colour system requires. -/
def rolesRequired : ColourSystem → List Role
  | .additiveRgb => [.emitter1, .emitter2, .emitter3]
  | .additiveRgbw => [.emitter1, .emitter2, .emitter3, .emitter4]
  | .subtractiveCmy => [.cyan, .magenta, .yellow, .dimmer]

/-- R4: the colour roles a colour system does not allow. -/
def rolesBarred : ColourSystem → List Role
  | .additiveRgb => [.emitter4, .cyan, .magenta, .yellow]
  | .additiveRgbw => [.cyan, .magenta, .yellow]
  | .subtractiveCmy => [.emitter1, .emitter2, .emitter3, .emitter4]

/-- R4: the length of the gain list. -/
def gainCount : ColourSystem → Nat
  | .additiveRgb => 3
  | .additiveRgbw => 4
  | .subtractiveCmy => 3

/-- R4: the colour roles and the gain list agree with the colour system. -/
def coloursFit (sys : ColourSystem) (rs : List RoleReq) (gains : Nat) : Bool :=
  (rolesRequired sys).all (fun r => roleCount rs r == 1) && (rolesBarred sys).all (fun r => roleCount rs r == 0)
    && gains == gainCount sys

/-- R5: the largest fixed value of a CONTROL role. -/
def fixedMax (width : Nat) : Nat :=
  if width = 16 then Config.full else 255

/-- R2, R5: a role entry as it is stored; only CONTROL holds a fixed value. -/
def storedRole (x : RoleReq) : Option RoleEntry :=
  match x.role, widthOf x.width with
  | some r, some w => some ⟨r, x.offset, w, if r = .control then clamp 0 (fixedMax x.width) x.fixed else 0⟩
  | _, _ => none

/-- R2: the channel map in ascending offset order. -/
def storedMap (rs : List RoleReq) : List RoleEntry :=
  (rs.filterMap storedRole).foldl (fun m r => putBy RoleEntry.offset r m) []

/-- R5: whether the request clamps a field. -/
def personalityClamps (p : PersonalityReq) : Bool :=
  clamps 100 Config.maxAngle p.panRange || clamps 100 Config.maxAngle p.tiltRange
    || clamps 1 2000 p.defaultSpeed || clamps 1 500 p.defaultAccel
    || p.roles.any (fun x => x.role == some .control && clamps 0 (fixedMax x.width) x.fixed)

/-- R2, R5: the stored personality. -/
def storedPersonality (p : PersonalityReq) (sys : ColourSystem) (feedback : Bool) : Personality where
  panRange := clamp 100 Config.maxAngle p.panRange
  tiltRange := clamp 100 Config.maxAngle p.tiltRange
  system := sys
  gains := p.gains.map BitVec.toNat
  shutterOpen := p.shutterOpen
  shutterClosed := p.shutterClosed
  feedback := feedback
  defaultSpeed := clamp 1 2000 p.defaultSpeed
  defaultAccel := clamp 1 500 p.defaultAccel
  channelMap := storedMap p.roles

/-- R2: a patched head names the personality. -/
def State.personalityInUse (s : State) (p : Nat) : Bool :=
  s.patchedHeads.any (fun h => (s.placement h).any (fun q => q.personality == p))

/-- R2 check 4: the colour system is named, and the map and the gains pass the structural checks. -/
def structureFits (p : PersonalityReq) : Bool :=
  p.system.any (fun sys => mapFits p.roles && coloursFit sys p.roles p.gains.length)

/-- DEFINE PERSONALITY (R2 to R5). A feedback mark that names no value is refused at check 2 (R169). -/
def ownDefinePersonality (p : PersonalityReq) : Owner := fun _ s =>
  if s.storeBusy then refuse .storeBusy s
  else if Config.personalities ≤ p.id ∨ p.feedback = none then refuse .badField s
  else if s.personalityInUse p.id then refuse .inUse s
  else if !structureFits p then refuse .badField s
  else
    match p.system, p.feedback with
    | some sys, some feedback =>
      let q := storedPersonality p sys feedback
      (s.setPersonality p.id q, .reply (okOrClamped (personalityClamps p)) (.footprint (footprint q.channelMap)))
    | _, _ => refuse .badField s

/-! ## Patching -/

/-- R8: the first and the last slot a footprint claims from a base slot. -/
def claimEnd (base footprint : Nat) : Nat :=
  base + footprint - 1

/-- R8: a slot of the range is claimed by another patched head on the line. -/
def State.overlaps (s : State) (h line base last : Nat) : Bool :=
  (s.headsOn line).any (fun k => k != h && (s.placement k).any (fun p =>
    decide (p.base ≤ last) && decide (base ≤ s.lastSlot k)))

/-- R6: the record of a head as it is patched. -/
def HeadPatch.seeded (p : Placement) (q : Personality) : HeadPatch :=
  { HeadPatch.unpatched with
    placement := some p
    maxSpeed := q.defaultSpeed
    maxAccel := q.defaultAccel
    homePan := q.panRange / 2
    homeTilt := q.tiltRange / 2
    parkPan := q.panRange / 2
    parkTilt := q.tiltRange / 2 }

/-- R10: the record of a head as it is re-patched to a personality it did not have. -/
def HeadPatch.reseeded (c : HeadPatch) (q : Personality) : HeadPatch :=
  { c with
    maxSpeed := q.defaultSpeed
    maxAccel := q.defaultAccel
    homePan := min c.homePan q.panRange
    homeTilt := min c.homeTilt q.tiltRange
    parkPan := min c.parkPan q.panRange
    parkTilt := min c.parkTilt q.tiltRange }

/-- R10: a home or park position lies outside the ranges. -/
def HeadPatch.clampedBy (c : HeadPatch) (q : Personality) : Bool :=
  decide (q.panRange < c.homePan) || decide (q.tiltRange < c.homeTilt) || decide (q.panRange < c.parkPan)
    || decide (q.tiltRange < c.parkTilt)

/-- R10, R13: a head's values leave a line's last-sent snapshot. -/
def State.forgetSent (s : State) (l h : Nat) : State :=
  s.setLine l { s.line l with snapshot := (s.line l).snapshot.filter (fun e => e.head != h) }

/-- R7: the patching of an unpatched head. -/
def State.patchFresh (s : State) (h : Nat) (p : Placement) (q : Personality) : State :=
  let c := HeadPatch.seeded p q
  (((s.setHeadPatch h c).setMotion h (some (Motion.fresh c.homePan c.homeTilt))).setWatch h Watch.unpatched).slotCountChanged
    p.line (s.slotCount p.line)

/-- R10: the record after a re-patch from `old`. -/
def HeadPatch.moved (c : HeadPatch) (old p : Placement) (q : Personality) : HeadPatch :=
  if old.personality = p.personality then { c with placement := some p }
  else { c.reseeded q with placement := some p }

/-- R10: the queue entries of the head leave its old line, and its exchange there is discarded, when the line or the base
slot changes. -/
def State.dropTraffic (s : State) (h : Nat) (old p : Placement) : State :=
  if old.line = p.line ∧ old.base = p.base then s
  else (s.dropQueries old.line (fun e => e.head == h)).discardExchange old.line h (fun _ => .repatched)

/-- R139: the slot counts of a list of lines were those of `before`. -/
def State.slotCountsChanged (before s : State) (ls : List Nat) : State :=
  ls.foldl (fun u l => u.slotCountChanged l (before.slotCount l)) s

/-- R10: a re-patch that changes the placement. -/
def State.repatch (s : State) (h : Nat) (old p : Placement) (q : Personality) : State :=
  let c := (s.headPatch h).moved old p q
  let s1 := (s.setHeadPatch h c).setMotion h ((s.motion h).map (Motion.rebase q c.maxSpeed))
  let s2 := (s1.setWatch h { s1.watch h with strikes := 0, misses := 0 }).forgetSent old.line h
  State.slotCountsChanged s (s2.dropTraffic h old p)
    (if old.line = p.line then [p.line] else [old.line, p.line])

/-- R10: the kept values clamped mark. -/
def State.keptClamped (s : State) (h : Nat) (old p : Placement) (q : Personality) : Bool :=
  (decide (old.personality ≠ p.personality) && (s.headPatch h).clampedBy q) || (s.motion h).any (Motion.clampedBy q)

/-- The reply of an accepted PATCH HEAD (R7, R10). R10 gives the kept values clamped mark to a re-patch; that the reply to the patching
of an unpatched head carries it too, clear, is this model's choice (notes/assumptions/30.md). -/
def State.patchReply (s : State) (p : Placement) (q : Personality) (oldLine : Option Nat) (kept : Bool) : ReplyBody :=
  .patched (footprint q.channelMap) (s.slotCount p.line)
    ((oldLine.filter (fun l => l != p.line)).map s.slotCount) kept

/-- R7 check 2: a field out of range. -/
def patchFieldsBad (head personality line base : Nat) : Bool :=
  decide (Config.heads ≤ head) || decide (Config.personalities ≤ personality) || decide (Config.headLines ≤ line)
    || decide (base < 1) || decide (512 < base)

/-- PATCH HEAD (R7 to R10). -/
def ownPatchHead (head personality line base : Nat) : Owner := fun _ s =>
  let p : Placement := ⟨personality, line, base⟩
  if s.storeBusy then refuse .storeBusy s
  else if patchFieldsBad head personality line base then refuse .badField s
  else
    match s.personality personality with
    | none => refuse .notFound s
    | some q =>
      let last := claimEnd base (footprint q.channelMap)
      if 512 < last then refuse .badField s
      else
        match s.placement head with
        | none =>
          if s.overlaps head line base last then refuse .overlap s
          else
            let s' := s.patchFresh head p q
            accept s' (s'.patchReply p q none false)
        | some old =>
          if old = p then accept s (s.patchReply p q (some old.line) false)
          else if s.rehomeInProgress head then refuse .wrongState s
          else if s.overlaps head line base last then refuse .overlap s
          else
            let s' := s.repatch head old p q
            accept s' (s'.patchReply p q (some old.line) (s.keptClamped head old p q))

/-! ## Settings and limits -/

/-- R11: the nine fields replaced, home and park clamped into the ranges. -/
def HeadPatch.withSettings (c : HeadPatch) (h : HeadReq) (m : HeadMarks) (q : Personality) : HeadPatch :=
  { c with
    panInvert := m.panInvert
    tiltInvert := m.tiltInvert
    autoRehome := m.autoRehome
    homePan := clamp 0 q.panRange h.homePan
    homeTilt := clamp 0 q.tiltRange h.homeTilt
    parkPan := clamp 0 q.panRange h.parkPan
    parkTilt := clamp 0 q.tiltRange h.parkTilt
    altColour := toColour h.altColour
    driftTolerance := h.driftTolerance.toNat }

/-- R11: whether a field is clamped. -/
def headClamps (h : HeadReq) (q : Personality) : Bool :=
  clamps 0 q.panRange h.homePan || clamps 0 q.tiltRange h.homeTilt || clamps 0 q.panRange h.parkPan
    || clamps 0 q.tiltRange h.parkTilt

/-- SET HEAD (R11). -/
def ownSetHead (h : HeadReq) : Owner := fun _ s =>
  if s.storeBusy then refuse .storeBusy s
  else
    match h.marks with
    | none => refuse .badField s
    | some m =>
      if Config.heads ≤ h.head then refuse .badField s
      else
        match s.personalityOf h.head with
        | none => refuse .notFound s
        | some q =>
          (s.setHeadPatch h.head ((s.headPatch h.head).withSettings h m q), .reply (okOrClamped (headClamps h q)) .bare)

/-- R12: the limits replaced, and the velocities cut at once. -/
def State.withLimits (s : State) (h speed accel : Nat) : State :=
  (s.setHeadPatch h { s.headPatch h with maxSpeed := speed, maxAccel := accel }).setMotion h
    ((s.motion h).map (Motion.cut speed))

/-- SET HEAD LIMITS (R12). -/
def ownSetHeadLimits (h : Nat) (speed accel : Int) : Owner := fun _ s =>
  if s.storeBusy then refuse .storeBusy s
  else if Config.heads ≤ h then refuse .badField s
  else if !s.patched h then refuse .notFound s
  else
    (s.withLimits h (clamp 1 2000 speed) (clamp 1 500 accel),
      .reply (okOrClamped (clamps 1 2000 speed || clamps 1 500 accel)) .bare)

/-! ## Unpatching -/

/-- R14: the fade slots held for a head. -/
def State.slotsOf (s : State) (h : Nat) : Nat :=
  total (layerIds.map (fun l => ((s.layer l).slots.filter (fun x => x.head == h)).length))

/-- R14: every layer drops its slots for the head. -/
def State.dropSlots (s : State) (h : Nat) : State :=
  layerIds.foldl
    (fun u l => u.setLayer l { u.layer l with slots := (u.layer l).slots.filter (fun x => x.head != h) }) s

/-- R13, R15: what leaves the line's queue. -/
def State.entriesFor (s : State) (l h : Nat) : List QueryEntry :=
  (s.line l).queue.filter (fun e => e.head == h)

/-- R15: what the homing count loses at once: the removed HOME entries, and the head's own homing. -/
def State.unpatchReleases (s : State) (l h : Nat) : Nat :=
  homeCount (s.entriesFor l h) + (if (s.watch h).condition = .homing then 1 else 0)

/-- R15: the line and supervision drop their state for the head. -/
def State.dropWatch (s : State) (l h : Nat) : State :=
  let s1 := (s.dropQueries l (fun e => e.head == h)).discardExchange l h (fun k => .unpatched (k == .home))
  ((s1.leaveRehome h).moveCondition h Watch.unpatched .unpatch).lowerHoming (s.unpatchReleases l h)

/-- R13 to R15: an accepted UNPATCH HEAD. -/
def State.unpatch (s : State) (h l : Nat) : State :=
  let s1 := ((s.dropSlots h).dropWatch l h).forgetSent l h
  let s2 := (s1.setHeadPatch h HeadPatch.unpatched).setMotion h none
  let s3 := s2.slotCountChanged l (s.slotCount l)
  if s.unpatchReleases l h = 0 then s3 else s3.dispatch

/-- UNPATCH HEAD (R13). -/
def ownUnpatchHead (h : Nat) : Owner := fun _ s =>
  if s.storeBusy then refuse .storeBusy s
  else if Config.heads ≤ h then refuse .badField s
  else
    match s.placement h with
    | none => refuse .notFound s
    | some p =>
      let removed := s.entriesFor p.line h
      accept (s.unpatch h p.line) (.unpatched (s.slotsOf h) removed.length (consoleCount removed))

/-! ## Groups -/

/-- R16: the number of members. -/
def memberCount (g : BitVec 512) : Nat :=
  ((List.range Config.heads).filter g.getLsbD).length

/-- DEFINE GROUP (R16). -/
def ownDefineGroup (g : Nat) (marks : BitVec 512) : Owner := fun _ s =>
  if s.storeBusy then refuse .storeBusy s
  else if Config.groups ≤ g then refuse .badField s
  else accept (s.setGroup g marks) (.members (memberCount marks))

/-! ## The commands -/

/-- DEFINE_PERSONALITY (R2). -/
def execDefinePersonality (t : Nat) (tag : Byte) (p : PersonalityReq) (s : State) :
    Host.Outcome State Fault Refusal :=
  request t tag 0x10#8 (ownDefinePersonality p) s

/-- PATCH_HEAD (R7). -/
def execPatchHead (t : Nat) (tag : Byte) (head personality line base : Nat) (s : State) :
    Host.Outcome State Fault Refusal :=
  request t tag 0x11#8 (ownPatchHead head personality line base) s

/-- UNPATCH_HEAD (R13). -/
def execUnpatchHead (t : Nat) (tag : Byte) (head : Nat) (s : State) : Host.Outcome State Fault Refusal :=
  request t tag 0x12#8 (ownUnpatchHead head) s

/-- SET_HEAD (R11). -/
def execSetHead (t : Nat) (tag : Byte) (h : HeadReq) (s : State) : Host.Outcome State Fault Refusal :=
  request t tag 0x13#8 (ownSetHead h) s

/-- SET_HEAD_LIMITS (R12). -/
def execSetHeadLimits (t : Nat) (tag : Byte) (head : Nat) (speed accel : Int) (s : State) :
    Host.Outcome State Fault Refusal :=
  request t tag 0x14#8 (ownSetHeadLimits head speed accel) s

/-- DEFINE_GROUP (R16). -/
def execDefineGroup (t : Nat) (tag : Byte) (group : Nat) (marks : BitVec 512) (s : State) :
    Host.Outcome State Fault Refusal :=
  request t tag 0x15#8 (ownDefineGroup group marks) s

end Sys2Proof.Machine
end

