-- ==== Sys2Proof/Machine/ShowInputs.lean ====
section
/-! DEFINITION. The show inputs (08): beat and subdivision (R120 to R126), timecode (R127, R128) and trigger lines
(R129 to R134). -/

namespace Sys2Proof.Machine

open Sys2Proof

/-! ## Beat events -/

/-- R126: a BEAT_SOURCE notice of the beat part as it stands. -/
def State.notifyBeat (s : State) (cause : BeatCause) : State :=
  let b := s.inputs.beat
  s.notify (.beatSource b.source b.setting b.period b.history.length cause)

/-- R125: the subdivision timer reloaded at a beat. -/
def State.startSubdivision (s : State) : State :=
  let q := s.inputs.beat.period / 4
  s.setBeat { s.inputs.beat with subdivision := some ⟨s.now + q, q, 1⟩ }

/-- R125: a beat event: playback counts it, quarter-beat event 0 is issued, and the subdivision timer is reloaded. -/
def State.beatEvent (s : State) : State :=
  s.beatLayers.quarterBeat.startSubdivision

/-- R120: the interval is accepted. -/
def intervalAccepted (i : Nat) : Bool :=
  decide (Config.minBeatUs ≤ i ∧ i ≤ Config.maxBeatUs)

/-- R119, R120: an interval appended to the history, replacing the oldest of 4. -/
def appendInterval (h : List Nat) (i : Nat) : List Nat :=
  (if h.length < 4 then h else h.drop 1) ++ [i]

/-- R120: the mean of the history, rounded down. -/
def meanInterval (h : List Nat) : Nat :=
  total h / h.length

/-- R120: the interval of a pulse at `now`; absent when there is no previous pulse. -/
def Beat.interval (b : Beat) (now : Nat) : Option Nat :=
  b.previousPulse.map (fun p => now - p)

/-- R120: the beat part after a taken pulse at `now`. -/
def Beat.pulse (b : Beat) (now : Nat) : Beat :=
  match b.interval now with
  | none => { b with previousPulse := some now }
  | some i =>
    if intervalAccepted i then
      { b with
        previousPulse := some now
        history := appendInterval b.history i
        period := meanInterval (appendInterval b.history i) }
    else { b with previousPulse := some now }

/-- R121: a pulse in EXTERNAL: the timer is restarted, and the pulse is a beat. -/
def State.externalPulse (s : State) : State :=
  (s.setBeat { s.inputs.beat with timer := s.now + s.inputs.beat.period, missed := 0 }).beatEvent

/-- R120, R121: a pulse on the beat line. -/
def State.beatPulse (s : State) : State :=
  match s.inputs.beat.setting with
  | .forceInternal => s
  | .auto =>
    let accepted := (s.inputs.beat.interval s.now).any intervalAccepted
    let s1 := s.setBeat (s.inputs.beat.pulse s.now)
    match s.inputs.beat.source with
    | .external => s1.externalPulse
    | .internal =>
      if accepted then
        ((s1.setBeat { s1.inputs.beat with source := .external }).notifyBeat .pulse).externalPulse
      else s1

/-- BEAT_PULSE (R120, R121). -/
def execBeatPulse (t : Nat) (s : State) : Host.Outcome State Fault Refusal :=
  command t State.beatPulse s

/-- R122: the internal beat timer reloaded. -/
def State.reloadBeat (s : State) : State :=
  s.setBeat { s.inputs.beat with timer := s.now + s.inputs.beat.period }

/-- R122: the internal beat timer expires. -/
def State.beatExpiry (s : State) : State :=
  match s.inputs.beat.source with
  | .internal => s.reloadBeat.beatEvent
  | .external =>
    if s.inputs.beat.missed = 0 then (s.setBeat { s.inputs.beat with missed := 1 }).reloadBeat
    else
      (((s.setBeat { s.inputs.beat with source := .internal, missed := 0 }).notifyBeat .loss).reloadBeat).beatEvent

/-- INTERNAL_BEAT_EXPIRY (R122). -/
def execInternalBeatExpiry (t : Nat) (s : State) : Host.Outcome State Fault Refusal :=
  command t State.beatExpiry s

/-- R125: the subdivision timer after an expiry at `now`. -/
def Subdivision.after (x : Subdivision) (now : Nat) : Option Subdivision :=
  if x.next < 3 then some ⟨now + x.reload, x.reload, x.next + 1⟩ else none

/-- R125: the running subdivision timer expires. -/
def State.subdivisionExpiry (s : State) : State :=
  match s.inputs.beat.subdivision with
  | none => s
  | some x => (s.setBeat { s.inputs.beat with subdivision := x.after s.now }).quarterBeat

/-- SUBDIVISION_EXPIRY (R125). -/
def execSubdivisionExpiry (t : Nat) (s : State) : Host.Outcome State Fault Refusal :=
  command t State.subdivisionExpiry s

/-- SET TEMPO (R123). -/
def ownSetTempo (period : Int) : Owner := fun _ s =>
  if s.inputs.beat.source = .external then refuse .wrongState s
  else
    let p := clamp Config.minBeatUs Config.maxBeatUs period
    (s.setBeat { s.inputs.beat with period := p, history := [] },
      .reply (okOrClamped (clamps Config.minBeatUs Config.maxBeatUs period)) (.tempo p))

/-- R124: the setting becomes FORCE_INTERNAL. -/
def State.forceInternal (s : State) : State :=
  let b := s.inputs.beat
  match b.source with
  | .internal => s.setBeat { b with setting := .forceInternal }
  | .external =>
    (s.setBeat { b with setting := .forceInternal, source := .internal, missed := 0 }).notifyBeat .force

/-- R124: a setting requested. -/
def State.withBeatSetting (s : State) (setting : BeatSetting) : State :=
  match s.inputs.beat.setting, setting with
  | .auto, .forceInternal => s.forceInternal
  | .forceInternal, .auto => s.setBeat { s.inputs.beat with setting := .auto, previousPulse := none }
  | .auto, .auto => s
  | .forceInternal, .forceInternal => s

/-- SET BEAT SOURCE (R124). -/
def ownSetBeatSource (setting : Option BeatSetting) : Owner := fun _ s =>
  match setting with
  | none => refuse .badField s
  | some v =>
    let s' := s.withBeatSetting v
    accept s' (.beatSource s'.inputs.beat.source s'.inputs.beat.setting)

/-- SET_TEMPO (R123). -/
def execSetTempo (t : Nat) (tag : Byte) (period : Int) (s : State) : Host.Outcome State Fault Refusal :=
  request t tag 0x50#8 (ownSetTempo period) s

/-- SET_BEAT_SOURCE (R124). -/
def execSetBeatSource (t : Nat) (tag : Byte) (setting : Option BeatSetting) (s : State) :
    Host.Outcome State Fault Refusal :=
  request t tag 0x51#8 (ownSetBeatSource setting) s

/-! ## Timecode -/

/-- R127: the sync character. -/
def timecodeSync : Byte := 0xA5#8

def State.setTimecode (s : State) (c : Timecode) : State :=
  { s with inputs.timecode := c }

/-- R128: a valid message of a frame. -/
def State.timecodeValid (s : State) (f : Nat) : State :=
  let was := s.inputs.timecode.locked
  let s1 := s.setTimecode
    { s.inputs.timecode with locked := true, frame := f, lockTimer := some (s.now + Config.lockUs) }
  (if was then s1 else s1.notify (.timecode true f)).timecodeLayers f

/-- R127: the characters of the message being assembled. -/
def State.withPartial (s : State) (cs : List Byte) : State :=
  s.setTimecode { s.inputs.timecode with partialChars := cs }

/-- R127: what a character taken with no message being assembled begins. -/
def timecodeStart (c : Byte) : List Byte :=
  if c = timecodeSync then [c] else []

/-- R127: a character received without a gap. -/
def State.timecodeChar (s : State) (c : Byte) : State :=
  let cs := s.inputs.timecode.partialChars
  if cs.isEmpty then s.withPartial (timecodeStart c)
  else if cs.length < 5 then s.withPartial (cs ++ [c])
  else
    match timecodeFrame (cs ++ [c]) with
    | some f => (s.withPartial []).timecodeValid f
    | none => s.withPartial []

/-- TIMECODE_MESSAGE (R127, R128). -/
def execTimecodeMessage (t : Nat) (chars : List Byte) (s : State) : Host.Outcome State Fault Refusal :=
  command t (fun u => chars.foldl State.timecodeChar u) s

/-- R127: the message being assembled is discarded; the character that ends a gap may be a sync character. -/
def State.timecodeDiscard (s : State) : TimecodeFault → State
  | .gap next => s.withPartial (timecodeStart next)
  | .range => s.withPartial []
  | .check => s.withPartial []

/-- TIMECODE_MESSAGE_DISCARD (R127). -/
def execTimecodeMessageDiscard (t : Nat) (cause : TimecodeFault) (s : State) :
    Host.Outcome State Fault Refusal :=
  command t (fun u => u.timecodeDiscard cause) s

/-- R128: the running lock timer expires. -/
def State.lockExpiry (s : State) : State :=
  if s.inputs.timecode.lockTimer.isSome then
    (s.setTimecode { s.inputs.timecode with locked := false, lockTimer := none }).notify
      (.timecode false s.inputs.timecode.frame)
  else s

/-- TIMECODE_LOCK_EXPIRY (R128). -/
def execTimecodeLockExpiry (t : Nat) (s : State) : Host.Outcome State Fault Refusal :=
  command t State.lockExpiry s

/-! ## Trigger lines -/

/-- R131: what an action did: a new state and its outcome, or a refusal. -/
inductive ActionResult
  | accepted (s : State) (outcome : TriggerOutcome)
  | refused (layer : Nat) (status : Status) (cue : Option Nat)

/-- R131: the outcome of a layer action that its rule accepts or refuses WRONG_STATE. -/
def layerAction (l : Nat) : Option State → ActionResult
  | some s' => .accepted s' (.layerState (s'.layer l).state)
  | none => .refused l .wrongState none

/-- R131: a GO of a trigger; its CUE_TAKEN is sent as the take is accepted. -/
def State.triggerGo (s : State) (l : Nat) : ActionResult :=
  match s.goTake l with
  | .refused status cue => .refused l status cue
  | .taken s' i => layerAction l (some (s'.notify (.cueTaken l i.cue .trigger .go)))

/-- R131: HOLD, PARK and RUN of a trigger. -/
def State.triggerMode (s : State) (m : RigMode) : ActionResult :=
  .accepted (s.withMode m) (.modeBefore s.merge.mode)

/-- R131: an action other than NONE handed to its owner. -/
def State.doAction (s : State) : Action → ActionResult
  | .none => .accepted s (.modeBefore s.merge.mode)
  | .go l => s.triggerGo l
  | .release l => layerAction l (s.releaseLayer l)
  | .pause l => layerAction l (s.pauseLayer l)
  | .resume l => layerAction l (s.resumeLayer l)
  | .kill l => layerAction l (some (s.clearLayer l))
  | .hold => s.triggerMode .hold
  | .park => s.triggerMode .park
  | .run => s.triggerMode .run
  | .setMask v => .accepted (s.withMask v) (.mask s.merge.mask (clamp 0 15 v))

/-- R131: the notice of an action's outcome. -/
def ActionResult.finish (s : State) (n : Nat) (a : Action) : ActionResult → State
  | .accepted s' outcome => s'.notify (.triggerTaken n a outcome)
  | .refused l status cue => s.notify (.takeFailed l .trigger (some n) status cue)

/-- R131: a flag is acted on: cleared, and its action carried out. -/
def State.actOn (s : State) (n : Nat) : State :=
  let a := (s.trigger n).entry.action
  let s1 := s.setTrigger n { s.trigger n with pending := false }
  match a with
  | .none => s1
  | a => (s1.doAction a).finish s1 n a

/-- R131: the flag is set and its entry lets it be acted on. -/
def State.acts (s : State) (n : Nat) : Bool :=
  (s.trigger n).pending &&
    (decide ((s.trigger n).entry.action = .none) || decide (s.inputs.floor < (s.trigger n).entry.precedence))

/-- R131: the flag tested, and acted on if it may be. -/
def State.testFlag (s : State) (n : Nat) : State :=
  if s.acts n then s.actOn n else s

/-- R129: an edge is accepted. -/
def Trigger.acceptsEdge (x : Trigger) (now : Nat) : Bool :=
  x.lastEdge.all (fun e => decide (e + Config.debounceUs ≤ now))

/-- R129: a rising edge on a trigger line. -/
def State.triggerEdge (s : State) (n : Nat) : State :=
  if s.startUp = .starting then s
  else if !(s.trigger n).acceptsEdge s.now then s
  else
    let s1 := s.setTrigger n { s.trigger n with lastEdge := some s.now, pending := true }
    if (s.trigger n).pending then s1 else s1.testFlag n

/-- TRIGGER_EDGE (R129). -/
def execTriggerEdge (t : Nat) (line : Fin 8) (s : State) : Host.Outcome State Fault Refusal :=
  command t (fun u => u.triggerEdge line.val) s

/-- R130: the action as it is stored, a SET MASK value clamped. -/
def storedAction : ActionReq → Action
  | .none => .none
  | .go l => .go l
  | .release l => .release l
  | .pause l => .pause l
  | .resume l => .resume l
  | .kill l => .kill l
  | .hold => .hold
  | .park => .park
  | .run => .run
  | .setMask v => .setMask (clamp 0 15 v)

/-- R130: whether the action's field is clamped. -/
def actionClamps : ActionReq → Bool
  | .setMask v => clamps 0 15 v
  | .none => false
  | .go _ => false
  | .release _ => false
  | .pause _ => false
  | .resume _ => false
  | .kill _ => false
  | .hold => false
  | .park => false
  | .run => false

/-- R130: the layer an action names. -/
def actionLayer : ActionReq → Option Nat
  | .go l => some l
  | .release l => some l
  | .pause l => some l
  | .resume l => some l
  | .kill l => some l
  | .none => none
  | .hold => none
  | .park => none
  | .run => none
  | .setMask _ => none

/-- R130: an entry stored, applied to a pending flag at once. -/
def State.storeTrigger (s : State) (n : Nat) (e : TriggerEntry) : State :=
  (s.setTrigger n { s.trigger n with entry := e }).testFlag n

/-- SET TRIGGER (R130). -/
def ownSetTrigger (n : Nat) (action : Option ActionReq) (precedence : Int) : Owner := fun _ s =>
  if s.storeBusy then refuse .storeBusy s
  else
    match action with
    | none => refuse .badField s
    | some a =>
      if Config.triggerLines ≤ n ∨ (actionLayer a).any (fun l => decide (Config.layers ≤ l)) then refuse .badField s
      else
        let e : TriggerEntry := ⟨storedAction a, clamp 1 15 precedence⟩
        let s' := s.storeTrigger n e
        (s', .reply (okOrClamped (clamps 1 15 precedence || actionClamps a)) (.trigger e (s'.trigger n).pending))

/-- R132: the eight trigger lines, ascending. -/
def triggerIds : List Nat := List.range Config.triggerLines

/-- R132: one flag tested against the floor, with the number of flags acted on so far. -/
def countFlag (r : State × Nat) (n : Nat) : State × Nat :=
  (r.1.testFlag n, if r.1.acts n then r.2 + 1 else r.2)

/-- SET TRIGGER FLOOR (R132). -/
def ownSetTriggerFloor (v : Int) : Owner := fun _ s =>
  let f := clamp 0 15 v
  let r := triggerIds.foldl countFlag ({ s with inputs.floor := f }, 0)
  (r.1, .reply (okOrClamped (clamps 0 15 v)) (.floor s.inputs.floor f r.2))

/-- R133: a flag cleared without its action. -/
def State.clearFlag (s : State) (n : Nat) : State :=
  s.setTrigger n { s.trigger n with pending := false }

/-- CLEAR TRIGGER (R133). -/
def ownClearTrigger (line : Option Nat) : Owner := fun _ s =>
  if line.any (fun n => decide (Config.triggerLines ≤ n)) then refuse .badField s
  else
    let ns := line.elim triggerIds (fun n => [n])
    accept (ns.foldl State.clearFlag s) (.cleared (ns.map (fun n => (n, (s.trigger n).pending))))

/-- READ TRIGGER (R134). -/
def ownReadTrigger (n : Nat) : Owner := fun _ s =>
  if Config.triggerLines ≤ n then refuse .badField s
  else
    accept s (.triggerRead (s.trigger n).entry (s.trigger n).pending
      (decide (s.inputs.floor < (s.trigger n).entry.precedence)))

/-- SET_TRIGGER (R130). -/
def execSetTrigger (t : Nat) (tag : Byte) (line : Nat) (action : Option ActionReq) (precedence : Int)
    (s : State) : Host.Outcome State Fault Refusal :=
  request t tag 0x52#8 (ownSetTrigger line action precedence) s

/-- SET_TRIGGER_FLOOR (R132). -/
def execSetTriggerFloor (t : Nat) (tag : Byte) (value : Int) (s : State) : Host.Outcome State Fault Refusal :=
  request t tag 0x53#8 (ownSetTriggerFloor value) s

/-- CLEAR_TRIGGER (R133). -/
def execClearTrigger (t : Nat) (tag : Byte) (line : Option Nat) (s : State) :
    Host.Outcome State Fault Refusal :=
  request t tag 0x54#8 (ownClearTrigger line) s

/-- READ_TRIGGER (R134). -/
def execReadTrigger (t : Nat) (tag : Byte) (line : Nat) (s : State) : Host.Outcome State Fault Refusal :=
  request t tag 0x55#8 (ownReadTrigger line) s

end Sys2Proof.Machine
end

