-- ==== Sys2Proof/Machine/ShowStore.lean ====
section
/-! DEFINITION. The show store (R176 to R178), what a LOAD replaces and its consequences at every owner (R91, R97, R135,
R139, R151, R165), start-up and the power-on reset (R179). -/

namespace Sys2Proof.Machine

open Sys2Proof

/-! ## The image -/

/-- R176, R177: the content of the image, captured from the tables as they stand. -/
def State.capture (s : State) : Image where
  personalities := s.patch.personalities
  heads := s.patch.heads
  groups := s.patch.groups
  zones := s.zones.zones
  lists := s.cues.lists
  triggers := Table.build TriggerEntry.powerOn Config.triggerLines (fun n => (s.trigger n).entry)
  lines := Table.build LineSettings.powerOn Config.headLines (fun l => (s.line l).settings)
  layers := Table.build LayerSettings.powerOn Config.layers (fun l => (s.layer l).settings)

/-- R178: the patch, zone and cue tables replaced, the zone write enable cleared (R97). -/
def State.withTables (s : State) (i : Image) : State :=
  { s with
    patch := ⟨i.personalities, i.heads, i.groups⟩
    zones := ⟨i.zones, false⟩
    cues := ⟨i.lists⟩ }

/-- R135: the trigger map replaced and the pending flags cleared. -/
def State.loadTriggers (s : State) (i : Image) : State :=
  triggerIds.foldl
    (fun u n => u.setTrigger n
      { u.trigger n with entry := Table.get TriggerEntry.powerOn i.triggers n, pending := false }) s

/-- R178, R35: the settings of the layers replaced, their running state left as it is. So is a refused timecode target that an
IDLE TIMECODE layer took while the LOAD was read (R49; notes/assumptions/26.md). -/
def State.loadLayers (s : State) (i : Image) : State :=
  layerIds.foldl
    (fun u l => u.setLayer l { u.layer l with settings := Table.get LayerSettings.powerOn i.layers l }) s

/-- R165: supervision's state after a LOAD, and after a RIG RESET; the limit and the poll timer are kept. -/
def State.resetSupervision (s : State) : State :=
  { s with
    supervision.heads := []
    supervision.rehomeQueue := []
    supervision.homingCount := 0 }

/-- R151: an exchange that runs to its end discarded by a LOAD. -/
def Turn.loaded : Turn → Turn
  | .exchange x => .exchange { x with discard := .loaded }
  | .idle => .idle
  | .frame slots => .frame slots

/-- R151: a line at a LOAD before its settings: queue emptied, wait counter 0, cursor absent, snapshot emptied, exchange
discarded. -/
def State.clearLine (s : State) (l : Nat) : State :=
  let y := s.line l
  (s.setLine l { y with turn := y.turn.loaded, queue := [], wait := 0, auditCursor := none, snapshot := [] }).abortEntries
    y.queue

/-- R139, R148, R151: refresh due is set at a LOAD: the line is enabled by it, or its slot count rises from 0. -/
def Line.loadDue (y : Line) (c : LineSettings) (before slots : Nat) : Bool :=
  c.enabled && decide (0 < slots) && (!y.settings.enabled || before == 0)

/-- R151: the loaded settings applied to a line as CONFIGURE LINE applies them, and its slot count recomputed (R139). -/
def Line.loaded (y : Line) (c : LineSettings) (now before slots : Nat) : Line :=
  { y with
    settings := c
    auditTimer :=
      if !c.enabled then none
      else if y.settings.enabled then y.auditTimer
      else some (now + 1000 * c.auditMs)
    refreshTimer := if !c.enabled || slots == 0 then none else y.refreshTimer
    refreshDue := if !c.enabled || slots == 0 then false else y.loadDue c before slots || y.refreshDue }

/-- R151: the settings of a line after a LOAD that found the slot counts of `before`. -/
def State.loadLine (before : State) (i : Image) (s : State) (l : Nat) : State :=
  s.setLine l ((s.line l).loaded (Table.get LineSettings.powerOn i.lines l) s.now (before.slotCount l) (s.slotCount l))

/-- R139, R148: the decision of a line whose refresh due the LOAD set. -/
def State.loadDecision (before : State) (s : State) (l : Nat) : State :=
  if (before.line l).loadDue (s.line l).settings (before.slotCount l) (s.slotCount l) then s.decideTurn l else s

/-- R178: the tables replaced by an image, with each block's LOAD consequences. The lines empty their queues ascending, each
answering its console entries ABORTED oldest first, and decide last: the model's order (notes/assumptions/26.md). -/
def State.loadImage (s : State) (i : Image) : State :=
  let s1 := ((s.withTables i).loadTriggers i).loadLayers i
  let s2 := (State.loadMotion s s1).resetSupervision
  let s3 := lineIds.foldl State.clearLine s2
  let s4 := lineIds.foldl (State.loadLine s i) s3
  lineIds.foldl (State.loadDecision s) s4

/-! ## SAVE and LOAD -/

def State.setStore (s : State) (st : Store) : State :=
  { s with store := st }

/-- SAVE (R177): accepted, the content is captured, the word becomes WRITING and the activity SAVING. -/
def ownSave : Owner := fun tag s =>
  if s.storeBusy then refuse .storeBusy s
  else
    (s.setStore { s.store with word := .writing, image := none, activity := .saving tag s.capture }, .deferred)

/-- SAVE (R177). -/
def execSave (t : Nat) (tag : Byte) (s : State) : Host.Outcome State Fault Refusal :=
  request t tag kindSave ownSave s

/-- R177: the last page is written, and with it the image's check (R176). -/
def State.saveComplete (s : State) : State :=
  match s.store.activity with
  | .saving tag captured =>
    (s.setStore ⟨.written, captured.check, captured.check, some captured, .idle⟩).answerDeferred
      kindSave tag .ok (.saved (imagePages captured.bytes) captured.bytes)
  | .idle => s
  | .loading _ => s

/-- SAVE_COMPLETE (R177). -/
def execSaveComplete (t : Nat) (s : State) : Host.Outcome State Fault Refusal :=
  command t State.saveComplete s

/-- R178: every layer is IDLE. -/
def State.allIdle (s : State) : Bool :=
  layerIds.all (fun l => decide ((s.layer l).state = .idle))

/-- LOAD (R178). -/
def ownLoad : Owner := fun tag s =>
  if s.storeBusy then refuse .storeBusy s
  else if !s.allIdle then refuse .wrongState s
  else if s.store.imageState ≠ .valid then (s, .reply .notFound (.imageState s.store.imageState))
  else (s.setStore { s.store with activity := .loading tag }, .deferred)

/-- LOAD (R178). -/
def execLoad (t : Nat) (tag : Byte) (s : State) : Host.Outcome State Fault Refusal :=
  request t tag kindLoad ownLoad s

/-- R178, R179: the sum of an image's bytes as they are read: of the bytes written, or of bytes that have changed since. -/
def readSum (i : Image) (altered : Option (BitVec 32)) : BitVec 32 :=
  altered.getD i.check

/-- R178, R179: the store after an image has been read and summed. -/
def State.summed (s : State) (sum : BitVec 32) : State :=
  s.setStore { s.store with sum := sum }

/-- R178: the activity becomes IDLE. -/
def State.storeIdle (s : State) : State :=
  s.setStore { s.store with activity := .idle }

/-- R178: the fields of a LOAD's deferred reply. -/
def State.loadedReply (s : State) : ReplyBody :=
  .loaded s.patchedHeads.length s.cues.all.length (entryCount s.cues.all)

/-- R178: the check matches. -/
def State.replaceTables (s : State) (tag : Byte) (i : Image) : State :=
  let s' := s.storeIdle.loadImage i
  s'.answerDeferred kindLoad tag .ok s'.loadedReply

/-- R178: the check differs. -/
def State.loadFails (s : State) (tag : Byte) : State :=
  s.storeIdle.answerDeferred kindLoad tag .notFound .bare

/-- R178: the replacement point: the image's check compared with the sum of the bytes read. A LOADING store holds an image in
every state a run reaches. -/
def State.replacementPoint (s : State) (altered : Option (BitVec 32)) : State :=
  match s.store.activity, s.store.image with
  | .loading tag, some i =>
    let sum := readSum i altered
    if sum = s.store.check then (s.summed sum).replaceTables tag i else (s.summed sum).loadFails tag
  | .loading tag, none => s.loadFails tag
  | .idle, _ => s
  | .saving _ _, _ => s

/-- LOAD_REPLACEMENT_POINT (R178). -/
def execLoadReplacementPoint (t : Nat) (altered : Option (BitVec 32)) (s : State) : Host.Outcome State Fault Refusal :=
  command t (fun u => u.replacementPoint altered) s

/-! ## Start-up -/

/-- R179: the part becomes READY and a START notice is queued. -/
def State.becomeReady (s : State) (r : StartResult) (pages : Option Nat) : State :=
  ({ s with startUp := .ready r }).notify (.start r Config.revision pages s.merge.douseLatch s.merge.douseLine)

/-- R179: start-up with an image, its check compared with the sum of the bytes read. -/
def State.startFromImage (s : State) (i : Image) (altered : Option (BitVec 32)) : State :=
  let sum := readSum i altered
  if sum = s.store.check then ((s.summed sum).loadImage i).becomeReady .loaded (some (imagePages i.bytes))
  else (s.summed sum).becomeReady .invalid none

/-- R179: start-up completes by the state word. A part whose word is WRITTEN holds an image in every state a run reaches. -/
def State.completeStartUp (s : State) (altered : Option (BitVec 32)) : State :=
  if s.startUp = .starting then
    match s.store.word, s.store.image with
    | .never, _ => s.becomeReady .empty none
    | .writing, _ => s.becomeReady .invalid none
    | .written, some i => s.startFromImage i altered
    | .written, none => s.becomeReady .invalid none
  else s

/-- START_UP_COMPLETE (R179). -/
def execStartUpComplete (t : Nat) (altered : Option (BitVec 32)) (s : State) : Host.Outcome State Fault Refusal :=
  command t (fun u => u.completeStartUp altered) s

/-- R179, R180: a power-on reset: every block at its power-on values, the state word and the image kept. -/
def State.powerOnReset (s : State) (douseLine : Bool) : State :=
  State.powerOn { s.store with activity := .idle } douseLine s.pending

/-- POWER_ON_RESET (R179). -/
def execPowerOnReset (douseLine : Bool) (s : State) : Host.Outcome State Fault Refusal :=
  .next (s.powerOnReset douseLine)

end Sys2Proof.Machine
end

