-- ==== Sys2Proof/Machine/ConsoleLink.lean ====
section
/-! DEFINITION. The console link (11): its reads (R173, R174), RIG RESET (R175 with R53, R74, R92, R97, R118, R135, R151,
R165), the request kinds and their bodies (R168), the receive assembler (R167, R169) and the end of a sent frame (R171). -/

namespace Sys2Proof.Machine

open Sys2Proof

/-! ## Codes (R168, R171) -/

/-- R171: the status byte of a reply. -/
def Status.code : Status → Byte
  | .ok => 0x00#8
  | .clamped => 0x01#8
  | .badLength => 0x10#8
  | .badKind => 0x11#8
  | .badField => 0x12#8
  | .notFound => 0x13#8
  | .duplicate => 0x14#8
  | .overlap => 0x15#8
  | .inUse => 0x16#8
  | .noSpace => 0x17#8
  | .listLocked => 0x18#8
  | .noList => 0x19#8
  | .endOfList => 0x1A#8
  | .slotPoolFull => 0x1B#8
  | .wrongState => 0x1C#8
  | .zoneLocked => 0x1D#8
  | .queueFull => 0x1E#8
  | .storeBusy => 0x1F#8
  | .tagBusy => 0x20#8
  | .noReply => 0x21#8
  | .aborted => 0x22#8
  | .starting => 0x23#8

/-- R168: the kind byte of a notice's frame. -/
def Notice.kindCode : Notice → Byte
  | .start _ _ _ _ _ => 0xE0#8
  | .cueTaken _ _ _ _ => 0xE1#8
  | .takeFailed _ _ _ _ _ => 0xE2#8
  | .triggerTaken _ _ _ => 0xE3#8
  | .douse _ _ _ => 0xE4#8
  | .beatSource _ _ _ _ _ => 0xE5#8
  | .timecode _ _ => 0xE6#8
  | .headCondition _ _ _ _ _ _ => 0xE7#8
  | .fault _ _ _ _ => 0xE8#8

/-- R166, R172: what the part of a frame being sent that the rules lay out holds: its kind, its tag and the first byte of its
body, the status byte of a reply or the flags byte of a notice. R172 gives bit 0 of the flags byte; that its other bits are sent 0 is
this model's choice (notes/assumptions/32.md). -/
def Outgoing.head : Outgoing → Byte × Byte × Byte
  | .reply r => (r.kind, r.tag, r.status.code)
  | .notice n lost => (n.kindCode, 0#8, if lost then 1#8 else 0#8)

/-! ## Reads -/

/-- R174: the capacities in the order IDENTIFY carries them. -/
def capacities : List Nat :=
  [Config.heads, Config.personalities, Config.groups, Config.zones, Config.layers, Config.cueLists, Config.cuePool,
    Config.entryPool, Config.slotPool, Config.headLines, Config.triggerLines, Config.blinkGenerators,
    Config.noticeCapacity]

/-- IDENTIFY (R174). -/
def ownIdentify : Owner := fun _ s =>
  accept s (.identity ⟨Config.vendor, Config.partName, Config.revision, capacities, s.startUp⟩)

/-- IDENTIFY (R174): the one request that passes the link's check 4 while STARTING. -/
def execIdentify (t : Nat) (tag : Byte) (s : State) : Host.Outcome State Fault Refusal :=
  command t (fun u => u.handle tag 0x01#8 true ownIdentify) s

/-- R174: a SAVE is in flight. -/
def State.saving (s : State) : Bool :=
  s.storeBusy && !s.loading

/-- R174: what READ RIG reports. -/
def State.rigReport (s : State) : RigReport where
  mode := s.merge.mode
  mask := s.merge.mask
  douseLatch := s.merge.douseLatch
  douseLine := s.merge.douseLine
  beatSource := s.inputs.beat.source
  beatSetting := s.inputs.beat.setting
  beatPeriod := s.inputs.beat.period
  intervals := s.inputs.beat.history.length
  timecodeLocked := s.inputs.timecode.locked
  timecodeFrame := s.inputs.timecode.frame
  floor := s.inputs.floor
  pending := triggerIds.map (fun n => (s.trigger n).pending)
  homingCount := s.supervision.homingCount
  homingLimit := s.supervision.homingLimit
  rehomeQueued := s.supervision.rehomeQueue.length
  freeCues := s.freeCues
  freeEntries := s.freeEntries
  freeSlots := s.freeSlots
  saving := s.saving
  loading := s.loading
  image := s.store.imageState
  imagePages := if s.store.imageState = .valid then s.store.image.map (fun i => imagePages i.bytes) else none
  tagsInFlight := s.link.inFlight.length
  notices := s.link.notices.length
  lost := s.link.lost

/-- READ RIG (R174). -/
def ownReadRig : Owner := fun _ s =>
  accept s (.rig s.rigReport)

/-- READ_RIG (R174). -/
def execReadRig (t : Nat) (tag : Byte) (s : State) : Host.Outcome State Fault Refusal :=
  request t tag 0x02#8 ownReadRig s

/-- R173: a head's values in its line's last-sent snapshot. -/
def State.lastSent (s : State) (h : Nat) : Option (Nat × Nat) :=
  (s.placement h).bind (fun p => ((s.line p.line).snapshot.find? (fun e => e.head == h)).map (fun e => (e.pan, e.tilt)))

/-- R173: the groups a head id belongs to. -/
def State.groupsOf (s : State) (h : Nat) : List Nat :=
  (List.range Config.groups).filter (fun g => (s.group g).getLsbD h)

/-- R173: what READ HEAD reports. -/
def State.headReport (s : State) (h : Nat) : HeadReport :=
  if s.patched h then
    .patched {
      patch := s.headPatch h
      pan := s.mergeReport h .pan
      tilt := s.mergeReport h .tilt
      intensity := s.mergeReport h .intensity
      colour := s.mergeReport h .colour
      motion := s.motionReport h
      zones := s.zonesOf h
      output := s.outputReport h
      lastSent := s.lastSent h
      watch := s.watchReport h }
  else .unpatched (s.groupsOf h) (s.watchReport h)

/-- READ HEAD (R173). -/
def ownReadHead (h : Nat) : Owner := fun _ s =>
  if Config.heads ≤ h then refuse .badField s else accept s (.head (s.headReport h))

/-- READ_HEAD (R173). -/
def execReadHead (t : Nat) (tag : Byte) (head : Nat) (s : State) : Host.Outcome State Fault Refusal :=
  request t tag 0x03#8 (ownReadHead head) s

/-! ## RIG RESET -/

/-- R175: the notice queue emptied and the lost mark cleared. -/
def State.clearNotices (s : State) : State :=
  { s with link.notices := [], link.lost := false }

/-- R175, R53: every layer by KILL. -/
def State.clearLayers (s : State) : State :=
  layerIds.foldl State.clearLayer s

/-- R74: mask 0, mode RUN, the latch equal to the line. -/
def State.resetMerge (s : State) : State :=
  ({ s with merge.mask := 0, merge.mode := .run }).setDouseLatch s.merge.douseLine .rigReset

/-- R118: every generator in phase ON with count 0. -/
def State.resetGenerators (s : State) : State :=
  (List.range Config.blinkGenerators).foldl
    (fun u g => u.setGenerator g { u.generator g with on := true, count := 0 }) s

/-- R135: the history emptied, the pending flags cleared, the floor 0. A timecode message partly assembled is kept: R135 does not
list it (notes/assumptions/21.md). -/
def State.resetInputs (s : State) : State :=
  let s1 := triggerIds.foldl State.clearFlag s
  { s1 with inputs.beat.history := [], inputs.floor := 0 }

/-- R151: whether the line's exchange is waiting for a reply, and so ends at once when it is abandoned. -/
def Turn.waiting : Turn → Bool
  | .exchange x =>
    match x.phase with
    | .window _ => true
    | .sending => false
  | .idle => false
  | .frame _ => false

/-- R151: the entry of an exchange that has not been abandoned yet. -/
def Turn.inExchange : Turn → List QueryEntry
  | .exchange x => if x.abandoned then [] else [x.entry]
  | .idle => []
  | .frame _ => []

/-- R151: a turn at a RIG RESET: an exchange waiting for a reply ends, one whose query frame is being sent is abandoned. -/
def Turn.abandon : Turn → Turn
  | .exchange x =>
    match x.phase with
    | .window _ => .idle
    | .sending => .exchange { x with abandoned := true }
  | .idle => .idle
  | .frame slots => .frame slots

/-- R151: a line at a RIG RESET, its decision left open; a CONSOLE entry of an exchange that ends now is answered ABORTED, before
those of the queue, which are younger (notes/assumptions/11.md). -/
def State.resetLine (s : State) (l : Nat) : State :=
  let y := s.line l
  (s.setLine l { y with turn := y.turn.abandon, queue := [], wait := 0, auditCursor := none }).abortEntries
    ((if y.turn.waiting then y.turn.inExchange else []) ++ y.queue)

/-- R175: the console queries a RIG RESET aborts on a line. -/
def Line.abortedByReset (y : Line) : Nat :=
  consoleCount (y.queue ++ y.turn.inExchange)

/-- R151: the decision of a line whose exchange `before` ended. -/
def State.resetDecision (before : State) (s : State) (l : Nat) : State :=
  if (before.line l).turn.waiting then s.decideTurn l else s

/-- R175: every owner applies its RIG RESET values; the lines decide last. -/
def State.rigReset (s : State) : State :=
  let s1 := s.clearNotices.clearLayers.resetMerge.resetGenerators.resetInputs.withZoneWrite false
  let s2 := (lineIds.foldl State.resetLine s1).resetSupervision
  lineIds.foldl (State.resetDecision s) s2

/-- RIG RESET (R175). -/
def ownRigReset : Owner := fun _ s =>
  accept s.rigReset (.rigReset s.link.notices.length (total (lineIds.map (fun l => (s.line l).abortedByReset))))

/-- RIG_RESET (R175). -/
def execRigReset (t : Nat) (tag : Byte) (s : State) : Host.Outcome State Fault Refusal :=
  request t tag 0x04#8 ownRigReset s

/-! ## Request kinds and bodies (R168) -/

/-- A request kind: its code, and how its body is read; `none` where the body does not fit. -/
structure KindRow where
  code : Byte
  parse : List Byte → Option Owner

/-- R168: a kind of fixed body length. -/
def fixedKind (code : Byte) (len : Nat) (own : List Byte → Owner) : KindRow :=
  ⟨code, fun b => if b.length = len then some (own b) else none⟩

/-- A one-byte number at an offset of a body. -/
def numAt (b : List Byte) (off : Nat) : Nat := (byteAt b off).toNat

/-- A cue number at an offset of a body. -/
def cueAt (b : List Byte) (off : Nat) : BitVec 16 := BitVec.ofNat 16 (fieldAt b off 2)

/-- A number of a body that its rule clamps. -/
def intAt (b : List Byte) (off len : Nat) : Int := fieldAt b off len

/-- The role entries of a DEFINE PERSONALITY body. -/
def rolesAt : Nat → List Byte → List RoleReq
  | 0, _ => []
  | n + 1, b => ⟨Config.roleOfCode (byteAt b 0), numAt b 1, numAt b 2, intAt b 3 2⟩ :: rolesAt n (b.drop 5)

/-- R4: the gain list of a body, in a field of four levels; a count above 4 gives a list no colour system accepts. -/
def gainsAt (b : List Byte) : List Level :=
  if 4 < numAt b 10 then [] else [levelAt b 11, levelAt b 13, levelAt b 15, levelAt b 17].take (numAt b 10)

/-- The body of DEFINE PERSONALITY. -/
def personalityAt (b : List Byte) : PersonalityReq where
  id := numAt b 0
  panRange := intAt b 1 4
  tiltRange := intAt b 5 4
  system := Config.colourSystemOfCode (byteAt b 9)
  gains := gainsAt b
  shutterOpen := byteAt b 19
  shutterClosed := byteAt b 20
  feedback := markOf (byteAt b 21)
  defaultSpeed := intAt b 22 2
  defaultAccel := intAt b 24 2
  roles := rolesAt (numAt b 26) (b.drop 27)

/-- R168: DEFINE PERSONALITY fits when its length is 27 plus 5 times its role count. -/
def parsePersonality (b : List Byte) : Option Owner :=
  if 27 ≤ b.length ∧ b.length = 27 + 5 * numAt b 26 then some (ownDefinePersonality (personalityAt b)) else none

/-- The marks of SET HEAD: the inverts in bits 0 and 1 of one byte, auto_rehome in another. -/
def headMarksAt (b : List Byte) : Option HeadMarks :=
  if 3 < numAt b 2 then none
  else (markOf (byteAt b 27)).map (fun a => ⟨(byteAt b 2).getLsbD 0, (byteAt b 2).getLsbD 1, a⟩)

/-- The body of SET HEAD. -/
def headAt (b : List Byte) : HeadReq where
  head := fieldAt b 0 2
  marks := headMarksAt b
  homePan := intAt b 3 4
  homeTilt := intAt b 7 4
  parkPan := intAt b 11 4
  parkTilt := intAt b 15 4
  altColour := rgbAt b 19
  driftTolerance := levelAt b 25

/-- The membership marks of DEFINE GROUP: head 8 i + j is bit j of the i-th byte. -/
def groupAt (b : List Byte) : BitVec 512 :=
  BitVec.ofNat 512 (ofBytes (b.drop 1).reverse)

/-- The body of STORE CUE with its entries read; bit 0 of the marks says that follow_ms is present, bit 1 tc_frame. -/
def cueReqAt (b : List Byte) (es : List EntryReq) (stray : Bool) : CueReq where
  list := numAt b 0
  number := cueAt b 1
  fadeMs := intAt b 4 4
  moveMs := intAt b 8 4
  colourMs := intAt b 12 4
  delayMs := intAt b 16 4
  followMs := if (byteAt b 3).getLsbD 0 then some (intAt b 20 4) else none
  tcFrame := if (byteAt b 3).getLsbD 1 then some (intAt b 24 4) else none
  entries := es
  strayMark := stray || decide (3 < numAt b 3)

/-- R168: STORE CUE fits when its entries number its count and end with the body. -/
def parseStoreCue (b : List Byte) : Option Owner :=
  if b.length < 30 then none
  else (parseEntries (fieldAt b 28 2) (b.drop 30)).map (fun r => ownStoreCue (cueReqAt b r.1 r.2))

/-- R168: APPEND ENTRIES fits as STORE CUE does. -/
def parseAppend (b : List Byte) : Option Owner :=
  if b.length < 5 then none
  else (parseEntries (fieldAt b 3 2) (b.drop 5)).map (fun r => ownAppendEntries (numAt b 0) (cueAt b 1) r.1 r.2)

/-- The body of SET ZONE. -/
def zoneReqAt (b : List Byte) : ZoneReq where
  zone := numAt b 0
  group := numAt b 1
  active := markOf (byteAt b 2)
  panMin := BitVec.ofNat 32 (fieldAt b 3 4)
  panMax := BitVec.ofNat 32 (fieldAt b 7 4)
  tiltMin := BitVec.ofNat 32 (fieldAt b 11 4)
  tiltMax := BitVec.ofNat 32 (fieldAt b 15 4)

/-- R111: the target of a blink assignment: a kind byte and an id. That the id of a group takes two bytes, as that of a head, is the
model's choice (notes/assumptions/4.md). -/
def blinkTargetAt (b : List Byte) : Option BlinkTarget :=
  (Config.blinkTargetOfCode (byteAt b 1)).map
    (fun isHead => if isHead then BlinkTarget.head (fieldAt b 2 2) else BlinkTarget.group (fieldAt b 2 2))

/-- R168: SET BLINK, a form byte and five bytes, of which the generator form reads three. -/
def blinkOwner (b : List Byte) : Owner :=
  match Config.blinkFormOfCode (byteAt b 0) with
  | some true => ownSetBlinkGenerator (numAt b 1) (intAt b 2 1) (Config.runMarkOfCode (byteAt b 3))
  | some false =>
    ownSetBlinkAssignment (blinkTargetAt b) (unlessFF (byteAt b 4)) (Config.blinkMaskOfCode (byteAt b 5))
  | none => fun _ s => refuse .badField s

/-- R130: the action of SET TRIGGER, its field applied to the kind that its code names: a layer, or the value of SET MASK. A kind
without a field leaves the byte unread (notes/assumptions/4.md). -/
def ActionKind.withField (field : Nat) : ActionKind → ActionReq
  | .none => .none
  | .go => .go field
  | .release => .release field
  | .pause => .pause field
  | .resume => .resume field
  | .kill => .kill field
  | .hold => .hold
  | .park => .park
  | .run => .run
  | .setMask => .setMask field

/-- The action of a SET TRIGGER body: a code byte and a field byte. -/
def actionAt (b : List Byte) : Option ActionReq :=
  (Config.actionOfCode (byteAt b 1)).map (ActionKind.withField (numAt b 2))

/-- The body of CONFIGURE LINE. -/
def lineReqAt (b : List Byte) : LineReq where
  line := numAt b 0
  enabled := markOf (byteAt b 1)
  refreshPeriod := intAt b 2 2
  routineMaxWait := intAt b 4 1
  auditInterval := intAt b 5 2

/-- R168: the kinds of the link and of the patch. -/
def linkKinds : List KindRow :=
  [fixedKind 0x01#8 0 (fun _ => ownIdentify), fixedKind 0x02#8 0 (fun _ => ownReadRig),
    fixedKind 0x03#8 2 (fun b => ownReadHead (fieldAt b 0 2)), fixedKind 0x04#8 0 (fun _ => ownRigReset),
    fixedKind 0x05#8 0 (fun _ => ownSave), fixedKind 0x06#8 0 (fun _ => ownLoad),
    ⟨0x10#8, parsePersonality⟩,
    fixedKind 0x11#8 6 (fun b => ownPatchHead (fieldAt b 0 2) (numAt b 2) (numAt b 3) (fieldAt b 4 2)),
    fixedKind 0x12#8 2 (fun b => ownUnpatchHead (fieldAt b 0 2)),
    fixedKind 0x13#8 28 (fun b => ownSetHead (headAt b)),
    fixedKind 0x14#8 6 (fun b => ownSetHeadLimits (fieldAt b 0 2) (intAt b 2 2) (intAt b 4 2)),
    fixedKind 0x15#8 65 (fun b => ownDefineGroup (numAt b 0) (groupAt b))]

/-- R168: the kinds of cue memory. -/
def cueKinds : List KindRow :=
  [fixedKind 0x20#8 1 (fun b => ownCreateList (numAt b 0)),
    fixedKind 0x21#8 2 (fun b => ownSetListLock (numAt b 0) (Config.lockOfCode (byteAt b 1))),
    ⟨0x22#8, parseStoreCue⟩, ⟨0x23#8, parseAppend⟩,
    fixedKind 0x24#8 3 (fun b => ownDeleteCue (numAt b 0) (cueAt b 1)),
    fixedKind 0x25#8 1 (fun b => ownDeleteList (numAt b 0)),
    fixedKind 0x26#8 3 (fun b => ownReadList (numAt b 0) (cueAt b 1)),
    fixedKind 0x27#8 5 (fun b => ownReadCue (numAt b 0) (cueAt b 1) (fieldAt b 3 2))]

/-- R168: the kinds of playback. -/
def layerKinds : List KindRow :=
  [fixedKind 0x30#8 1 (fun b => ownGo (numAt b 0)),
    fixedKind 0x31#8 3 (fun b => ownGoto (numAt b 0) (fieldAt b 1 2)),
    fixedKind 0x32#8 1 (fun b => ownPause (numAt b 0)), fixedKind 0x33#8 1 (fun b => ownResume (numAt b 0)),
    fixedKind 0x34#8 1 (fun b => ownRelease (numAt b 0)), fixedKind 0x35#8 1 (fun b => ownKill (numAt b 0)),
    fixedKind 0x36#8 3 (fun b => ownMaster (numAt b 0) (levelAt b 1)),
    fixedKind 0x37#8 2 (fun b => ownPrecedence (numAt b 0) (intAt b 1 1)),
    fixedKind 0x38#8 2 (fun b => ownIntensityMode (numAt b 0) (Config.intensityModeOfCode (byteAt b 1))),
    fixedKind 0x39#8 5 (fun b => ownReleaseTime (numAt b 0) (intAt b 1 4)),
    fixedKind 0x3A#8 2 (fun b => ownChaseBeats (numAt b 0) (intAt b 1 1)),
    fixedKind 0x3B#8 2 (fun b => ownLayerMode (numAt b 0) (Config.layerModeOfCode (byteAt b 1))),
    fixedKind 0x3C#8 2 (fun b => ownAssignList (numAt b 0) (unlessFF (byteAt b 1))),
    fixedKind 0x3D#8 1 (fun b => ownReadLayer (numAt b 0))]

/-- R168: the kinds of the merge, the zone table and the effects. -/
def rigKinds : List KindRow :=
  [fixedKind 0x40#8 1 (fun b => ownSetMask (intAt b 0 1)), fixedKind 0x41#8 0 (fun _ => ownMode .hold),
    fixedKind 0x42#8 0 (fun _ => ownMode .park), fixedKind 0x43#8 0 (fun _ => ownMode .run),
    fixedKind 0x44#8 0 (fun _ => ownClearDouse), fixedKind 0x48#8 0 (fun _ => ownEnableZoneWrite),
    fixedKind 0x49#8 19 (fun b => ownSetZone (zoneReqAt b)), fixedKind 0x4A#8 1 (fun b => ownClearZone (numAt b 0)),
    fixedKind 0x4B#8 1 (fun b => ownReadZone (numAt b 0)), fixedKind 0x4C#8 6 blinkOwner]

/-- R168: the kinds of the show inputs, the head lines and supervision. -/
def inputKinds : List KindRow :=
  [fixedKind 0x50#8 4 (fun b => ownSetTempo (intAt b 0 4)),
    fixedKind 0x51#8 1 (fun b => ownSetBeatSource (Config.beatSettingOfCode (byteAt b 0))),
    fixedKind 0x52#8 4 (fun b => ownSetTrigger (numAt b 0) (actionAt b) (intAt b 3 1)),
    fixedKind 0x53#8 1 (fun b => ownSetTriggerFloor (intAt b 0 1)),
    fixedKind 0x54#8 1 (fun b => ownClearTrigger (unlessFF (byteAt b 0))),
    fixedKind 0x55#8 1 (fun b => ownReadTrigger (numAt b 0)),
    fixedKind 0x58#8 7 (fun b => ownConfigureLine (lineReqAt b)),
    fixedKind 0x59#8 3 (fun b => ownQueryHead (fieldAt b 0 2) (Config.priorityOfCode (byteAt b 2))),
    fixedKind 0x5A#8 1 (fun b => ownReadLine (numAt b 0)), fixedKind 0x5C#8 2 (fun b => ownRehomeHead (fieldAt b 0 2)),
    fixedKind 0x5D#8 2 (fun b => ownClearCondition (fieldAt b 0 2)),
    fixedKind 0x5E#8 1 (fun b => ownSetAudit (intAt b 0 1))]

/-- R168: every request kind. -/
def requestKinds : List KindRow :=
  linkKinds ++ cueKinds ++ layerKinds ++ rigKinds ++ inputKinds

/-! ## The receive assembler -/

/-- R169: a request frame handed on by the assembler; the link's checks in order. -/
def State.handleFrame (s : State) (kind tag : Byte) (body : List Byte) : State :=
  if Config.immediateReplies ≤ s.immediateHeld then s
  else
    match requestKinds.find? (fun r => r.code == kind) with
    | none => s.enqueueReply ⟨kind, tag, .badKind, .bare, true⟩
    | some r =>
      match r.parse body with
      | none => s.enqueueReply ⟨kind, tag, .badLength, .bare, true⟩
      | some own => s.handle tag kind (kind == 0x01#8) own

def State.withAssembler (s : State) (a : Assembler) : State :=
  { s with link.assembler := a }

/-- R167: one byte received with its stop bit and without a gap. -/
def State.linkByte (s : State) (b : Byte) : State :=
  match s.link.assembler with
  | .hunting => if b = syncByte then s.withAssembler (.assembling []) else s
  | .assembling bytes =>
    match assemble (bytes ++ [b]) with
    | .more => s.withAssembler (.assembling (bytes ++ [b]))
    | .discard => s.withAssembler .hunting
    | .frame kind tag body => (s.withAssembler .hunting).handleFrame kind tag body

/-- REQUEST_FRAME (R167, R169). -/
def execRequestFrame (t : Nat) (bytes : List Byte) (s : State) : Host.Outcome State Fault Refusal :=
  command t (fun u => bytes.foldl State.linkByte u) s

/-- CONSOLE_BYTE_GAP (R167): the frame is discarded, and the byte that ends the gap is taken while HUNTING. -/
def execConsoleByteGap (t : Nat) (next : Byte) (s : State) : Host.Outcome State Fault Refusal :=
  command t (fun u => (u.withAssembler .hunting).linkByte next) s

/-- R167: a frame discarded for its length, its framing or its check. -/
def State.discardFrame (s : State) : FrameFault → State
  | .oversize => s.withAssembler .hunting
  | .framing => s.withAssembler .hunting
  | .check => s.withAssembler .hunting

/-- CONSOLE_FRAME_DISCARD (R167). -/
def execConsoleFrameDiscard (t : Nat) (cause : FrameFault) (s : State) : Host.Outcome State Fault Refusal :=
  command t (fun u => u.discardFrame cause) s

/-- R171: the frame being sent has ended. -/
def State.endTransmit (s : State) : State :=
  { s with link.sending := none }

/-- TRANSMIT_FRAME_END (R171): the transmit arbiter is free, and looks at its queues as after every command. -/
def execTransmitFrameEnd (t : Nat) (s : State) : Host.Outcome State Fault Refusal :=
  command t State.endTransmit s

end Sys2Proof.Machine
end

