-- ==== Sys2Proof/Machine/Dispatch.lean ====
section
/-! DEFINITION. Dispatch: one arm for each command, each a direct call of its meaning. -/

namespace Sys2Proof.Machine

open Sys2Proof

def exec (i : Instr) (s : State) : Host.Outcome State Fault Refusal :=
  match i with
  | .powerOnReset douseLine => Sys2Proof.Machine.execPowerOnReset douseLine s
  | .startUpComplete t altered => Sys2Proof.Machine.execStartUpComplete t altered s
  | .requestFrame t bytes => Sys2Proof.Machine.execRequestFrame t bytes s
  | .consoleByteGap t next => Sys2Proof.Machine.execConsoleByteGap t next s
  | .consoleFrameDiscard t cause => Sys2Proof.Machine.execConsoleFrameDiscard t cause s
  | .transmitFrameEnd t => Sys2Proof.Machine.execTransmitFrameEnd t s
  | .identify t tag => Sys2Proof.Machine.execIdentify t tag s
  | .readRig t tag => Sys2Proof.Machine.execReadRig t tag s
  | .readHead t tag head => Sys2Proof.Machine.execReadHead t tag head s
  | .rigReset t tag => Sys2Proof.Machine.execRigReset t tag s
  | .save t tag => Sys2Proof.Machine.execSave t tag s
  | .saveComplete t => Sys2Proof.Machine.execSaveComplete t s
  | .load t tag => Sys2Proof.Machine.execLoad t tag s
  | .loadReplacementPoint t altered => Sys2Proof.Machine.execLoadReplacementPoint t altered s
  | .definePersonality t tag p => Sys2Proof.Machine.execDefinePersonality t tag p s
  | .patchHead t tag head personality line base => Sys2Proof.Machine.execPatchHead t tag head personality line base s
  | .unpatchHead t tag head => Sys2Proof.Machine.execUnpatchHead t tag head s
  | .setHead t tag h => Sys2Proof.Machine.execSetHead t tag h s
  | .setHeadLimits t tag head speed accel => Sys2Proof.Machine.execSetHeadLimits t tag head speed accel s
  | .defineGroup t tag group marks => Sys2Proof.Machine.execDefineGroup t tag group marks s
  | .createList t tag list => Sys2Proof.Machine.execCreateList t tag list s
  | .setListLock t tag list lock => Sys2Proof.Machine.execSetListLock t tag list lock s
  | .storeCue t tag c => Sys2Proof.Machine.execStoreCue t tag c s
  | .appendEntries t tag list number entries strayMark => Sys2Proof.Machine.execAppendEntries t tag list number entries strayMark s
  | .deleteCue t tag list number => Sys2Proof.Machine.execDeleteCue t tag list number s
  | .deleteList t tag list => Sys2Proof.Machine.execDeleteList t tag list s
  | .readList t tag list start => Sys2Proof.Machine.execReadList t tag list start s
  | .readCue t tag list number startHead => Sys2Proof.Machine.execReadCue t tag list number startHead s
  | .go t tag layer => Sys2Proof.Machine.execGo t tag layer s
  | .goto t tag layer number => Sys2Proof.Machine.execGoto t tag layer number s
  | .pause t tag layer => Sys2Proof.Machine.execPause t tag layer s
  | .resume t tag layer => Sys2Proof.Machine.execResume t tag layer s
  | .release t tag layer => Sys2Proof.Machine.execRelease t tag layer s
  | .kill t tag layer => Sys2Proof.Machine.execKill t tag layer s
  | .setMaster t tag layer master => Sys2Proof.Machine.execSetMaster t tag layer master s
  | .setPrecedence t tag layer precedence => Sys2Proof.Machine.execSetPrecedence t tag layer precedence s
  | .setIntensityMode t tag layer mode => Sys2Proof.Machine.execSetIntensityMode t tag layer mode s
  | .setReleaseTime t tag layer ms => Sys2Proof.Machine.execSetReleaseTime t tag layer ms s
  | .setChaseBeats t tag layer beats => Sys2Proof.Machine.execSetChaseBeats t tag layer beats s
  | .setLayerMode t tag layer mode => Sys2Proof.Machine.execSetLayerMode t tag layer mode s
  | .assignList t tag layer list => Sys2Proof.Machine.execAssignList t tag layer list s
  | .readLayer t tag layer => Sys2Proof.Machine.execReadLayer t tag layer s
  | .setMask t tag value => Sys2Proof.Machine.execSetMask t tag value s
  | .hold t tag => Sys2Proof.Machine.execHold t tag s
  | .park t tag => Sys2Proof.Machine.execPark t tag s
  | .run t tag => Sys2Proof.Machine.execRun t tag s
  | .clearDouse t tag => Sys2Proof.Machine.execClearDouse t tag s
  | .enableZoneWrite t tag => Sys2Proof.Machine.execEnableZoneWrite t tag s
  | .setZone t tag z => Sys2Proof.Machine.execSetZone t tag z s
  | .clearZone t tag zone => Sys2Proof.Machine.execClearZone t tag zone s
  | .readZone t tag zone => Sys2Proof.Machine.execReadZone t tag zone s
  | .setBlinkGenerator t tag generator rate mark => Sys2Proof.Machine.execSetBlinkGenerator t tag generator rate mark s
  | .setBlinkAssignment t tag target generator mask => Sys2Proof.Machine.execSetBlinkAssignment t tag target generator mask s
  | .setTempo t tag period => Sys2Proof.Machine.execSetTempo t tag period s
  | .setBeatSource t tag setting => Sys2Proof.Machine.execSetBeatSource t tag setting s
  | .setTrigger t tag line action precedence => Sys2Proof.Machine.execSetTrigger t tag line action precedence s
  | .setTriggerFloor t tag value => Sys2Proof.Machine.execSetTriggerFloor t tag value s
  | .clearTrigger t tag line => Sys2Proof.Machine.execClearTrigger t tag line s
  | .readTrigger t tag line => Sys2Proof.Machine.execReadTrigger t tag line s
  | .configureLine t tag c => Sys2Proof.Machine.execConfigureLine t tag c s
  | .queryHead t tag head priority => Sys2Proof.Machine.execQueryHead t tag head priority s
  | .readLine t tag line => Sys2Proof.Machine.execReadLine t tag line s
  | .rehomeHead t tag head => Sys2Proof.Machine.execRehomeHead t tag head s
  | .clearCondition t tag head => Sys2Proof.Machine.execClearCondition t tag head s
  | .setAudit t tag limit => Sys2Proof.Machine.execSetAudit t tag limit s
  | .layerStep t => Sys2Proof.Machine.execLayerStep t s
  | .followExpiry t layer => Sys2Proof.Machine.execFollowExpiry t layer s
  | .chaseCountExpiry t layer => Sys2Proof.Machine.execChaseCountExpiry t layer s
  | .blinkToggle t generator => Sys2Proof.Machine.execBlinkToggle t generator s
  | .limiterStep t => Sys2Proof.Machine.execLimiterStep t s
  | .douseAssert t => Sys2Proof.Machine.execDouseAssert t s
  | .douseDeassert t => Sys2Proof.Machine.execDouseDeassert t s
  | .beatPulse t => Sys2Proof.Machine.execBeatPulse t s
  | .internalBeatExpiry t => Sys2Proof.Machine.execInternalBeatExpiry t s
  | .subdivisionExpiry t => Sys2Proof.Machine.execSubdivisionExpiry t s
  | .timecodeMessage t chars => Sys2Proof.Machine.execTimecodeMessage t chars s
  | .timecodeMessageDiscard t cause => Sys2Proof.Machine.execTimecodeMessageDiscard t cause s
  | .timecodeLockExpiry t => Sys2Proof.Machine.execTimecodeLockExpiry t s
  | .triggerEdge t line => Sys2Proof.Machine.execTriggerEdge t line s
  | .refreshTimerExpiry t line => Sys2Proof.Machine.execRefreshTimerExpiry t line s
  | .refreshFrameEnd t line => Sys2Proof.Machine.execRefreshFrameEnd t line s
  | .queryFrameEnd t line => Sys2Proof.Machine.execQueryFrameEnd t line s
  | .replyFrameReceived t line chars => Sys2Proof.Machine.execReplyFrameReceived t line chars s
  | .replyStartTimeout t line => Sys2Proof.Machine.execReplyStartTimeout t line s
  | .replyShortTimeout t line => Sys2Proof.Machine.execReplyShortTimeout t line s
  | .auditTimerExpiry t line => Sys2Proof.Machine.execAuditTimerExpiry t line s
  | .supervisionPoll t => Sys2Proof.Machine.execSupervisionPoll t s
  | .homingDeadlineExpiry t head => Sys2Proof.Machine.execHomingDeadlineExpiry t head s

end Sys2Proof.Machine
end

