-- ==== Sys2Proof/Machine/Frames.lean ====
section
/-! DEFINITION. The frames the console link sends (R166, R171, R172): the fields of each reply and notice in the order its rule
lists them, their bytes, and the frame around them. What the rules print of a field is followed: high byte first, two's complement,
0xFF for *none*. What they do not print, the width of a field, the code of a named value, the mark of an absent one and the bytes of
a name, is free (notes/assumptions/5.md). -/

namespace Sys2Proof.Machine

open Sys2Proof

/-! ## Fields -/

/-- A value that a rule names and gives no number. -/
inductive Named
  | startUp (ready : Bool)
  | startResult (x : StartResult)
  | rigMode (x : RigMode)
  | beatSource (x : BeatSource)
  | beatSetting (x : BeatSetting)
  | activity (saving loading : Bool)
  | imageState (x : ImageState)
  | blinkMask (x : BlinkMask)
  | intensityMode (x : IntensityMode)
  | layerMode (x : LayerMode)
  | layerState (x : LayerState)
  | pausedFrom (x : PausedFrom)
  | forcing (x : Forcing)
  | condition (x : Condition)
  | stage (x : Stage)
  | action (x : ActionKind)
  | turn (x : TurnName)
  | priority (x : Priority)
  | queryKind (x : QueryKind)
  /-- AUDIT, SUPERVISION or CONSOLE -/
  | origin (x : Origin)
  | takeSource (x : TakeSource)
  | takeKind (x : TakeKind)
  | douseCause (x : DouseCause)
  | beatCause (x : BeatCause)
  | conditionCause (x : ConditionCause)
deriving DecidableEq, Repr

/-- A field of a reply or of a notice. -/
inductive Field
  /-- bytes that a rule lays out -/
  | bytes (l : List Byte)
  /-- a number without sign -/
  | num (n : Nat)
  /-- a number without sign in a field whose width a rule prints -/
  | sized (width n : Nat)
  /-- a number without sign, or *none*, in a field whose width a rule prints -/
  | sizedOrAbsent (width : Nat) (n : Option Nat)
  /-- a number with sign -/
  | signed (v : Int)
  /-- a number, or *none* -/
  | orNone (n : Option Nat)
  /-- a value that is absent -/
  | absent
  | named (x : Named)
  | text (s : String)
deriving DecidableEq, Repr

/-- The bytes that the field at a place of the frames of a kind takes: free. -/
opaque fieldWidth (kind : Byte) (place : Nat) : Nat

/-- How the field at a place of the frames of a kind shows that it is absent: free. -/
opaque absentBytes (kind : Byte) (place : Nat) : List Byte

/-- The number that stands, in a field whose width a rule prints, where the value is absent: free. -/
opaque absentNumber (kind : Byte) (place : Nat) : Nat

/-- The code of a named value: free. -/
opaque namedCode : Named → Byte

/-- The bytes of a name: free. -/
opaque textBytes : String → List Byte

/-- R166: the low `w` bytes of a number, high byte first. -/
def toBytes : Nat → Nat → List Byte
  | 0, _ => []
  | w + 1, n => toBytes w (n / 256) ++ [BitVec.ofNat 8 n]

/-- R166: a number with sign in two's complement. -/
def signedBytes (w : Nat) (v : Int) : List Byte :=
  toBytes w (v % 256 ^ w).toNat

/-- R166: the bytes of the field at a place of the frames of a kind. -/
def Field.toBytes (kind : Byte) (place : Nat) : Field → List Byte
  | .bytes l => l
  | .num n => Machine.toBytes (fieldWidth kind place) n
  | .sized w n => Machine.toBytes w n
  | .sizedOrAbsent w n => Machine.toBytes w (n.getD (absentNumber kind place))
  | .signed v => signedBytes (fieldWidth kind place) v
  | .orNone n => Machine.toBytes (fieldWidth kind place) (n.getD 0xFF)
  | .absent => absentBytes kind place
  | .named x => [namedCode x]
  | .text s => textBytes s

/-- The bytes of the fields from a place on. -/
def fieldBytes (kind : Byte) : Nat → List Field → List Byte
  | _, [] => []
  | place, f :: fs => f.toBytes kind place ++ fieldBytes kind (place + 1) fs

/-- A mark, a flag, or a field of two values: 0 or 1. Where the rule prints no code, which of the two values is 1 is the model's
choice, listed field by field in notes/assumptions/5.md. -/
def Field.mark (b : Bool) : Field := .num b.toNat

/-- A number that may be absent. -/
def Field.opt (n : Option Nat) : Field := n.elim .absent .num

/-- A list: its length and then its items. -/
def listFields {α : Type} (item : α → List Field) (l : List α) : List Field :=
  .num l.length :: l.flatMap item

/-! ## Fields of the records -/

def colourFields (c : Colour) : List Field := [.num c.red, .num c.green, .num c.blue]

/-- The value of an attribute. -/
def Val.fields : Val → List Field
  | .scalar n => [.num n]
  | .triple c => colourFields c

/-- R138: the fault flags. -/
def Faults.fields (f : Faults) : List Field := [.mark f.motor, .mark f.emitter, .mark f.overtemp]

/-- R6: the patch fields of a patched head. -/
def HeadPatch.fields (c : HeadPatch) : List Field :=
  [.opt (c.placement.map Placement.personality), .opt (c.placement.map Placement.line), .opt (c.placement.map Placement.base),
    .mark c.panInvert, .mark c.tiltInvert, .num c.maxSpeed, .num c.maxAccel, .num c.homePan, .num c.homeTilt, .num c.parkPan,
    .num c.parkTilt]
    ++ colourFields c.altColour
    ++ [.orNone c.blinkGenerator, .named (.blinkMask c.blinkMask), .num c.driftTolerance, .mark c.autoRehome]

/-- R62: a contributing layer. -/
def ContribReport.fields (r : ContribReport) : List Field :=
  [.num r.layer, .num r.precedence] ++ r.value.fields
    ++ [.opt r.scaled, r.intensityMode.elim .absent (fun m => .named (.intensityMode m)), .mark r.candidate]

/-- R62: a contribution report. -/
def MergeReport.fields (r : MergeReport) : List Field :=
  r.target.fields ++ [.opt r.decidedBy] ++ listFields ContribReport.fields r.layers

/-- R76: an axis. -/
def AxisReport.fields (r : AxisReport) : List Field := [.num r.position, .signed r.velocity, .num r.target]

/-- R76: the limiter's part. -/
def MotionReport.fields (r : MotionReport) : List Field := r.pan.fields ++ r.tilt.fields ++ [.num r.settle]

/-- R117: the encoder's part. -/
def OutputReport.fields (r : OutputReport) : List Field :=
  .num r.intensity :: listFields (fun f => [.named (.forcing f)]) r.forcing
    ++ [.orNone r.blink.generator, .opt (r.blink.phaseOn.map Bool.toNat), .named (.blinkMask r.blink.mask),
      .mark r.blink.tookIntensity, .mark r.blink.replacedColour]
    ++ colourFields r.colour ++ listFields (fun e => [.num e]) r.emitters
    ++ [.num r.panValue, .num r.tiltValue, .bytes [r.shutter]]

/-- R165: supervision's part. -/
def WatchReport.fields (r : WatchReport) : List Field :=
  [.named (.condition r.condition), .num r.strikes, .num r.misses]
    ++ r.lastReply.elim [.absent] (fun x => [.num x.pan, .num x.tilt] ++ x.faults.fields)
    ++ [.named (.stage r.stage), .opt r.place, .opt r.deadline]

/-- R173: READ HEAD, its mark *unpatched* first. -/
def HeadReport.fields : HeadReport → List Field
  | .unpatched groups watch => .mark true :: listFields (fun g => [.num g]) groups ++ watch.fields
  | .patched r =>
    .mark false :: r.patch.fields ++ r.pan.fields ++ r.tilt.fields ++ r.intensity.fields ++ r.colour.fields
      ++ r.motion.elim [.absent] MotionReport.fields ++ listFields (fun z => [.num z]) r.zones
      ++ r.output.elim [.absent] OutputReport.fields ++ r.lastSent.elim [.absent] (fun p => [.num p.1, .num p.2])
      ++ r.watch.fields

/-- R174, R134: READ RIG. -/
def RigReport.fields (r : RigReport) : List Field :=
  [.named (.rigMode r.mode), .num r.mask, .mark r.douseLatch, .mark r.douseLine, .named (.beatSource r.beatSource),
    .named (.beatSetting r.beatSetting), .num r.beatPeriod, .num r.intervals, .mark r.timecodeLocked, .num r.timecodeFrame,
    .num r.floor]
    ++ r.pending.map Field.mark
    ++ [.num r.homingCount, .num r.homingLimit, .num r.rehomeQueued, .num r.freeCues, .num r.freeEntries, .num r.freeSlots,
      .named (.activity r.saving r.loading), .named (.imageState r.image), .opt r.imagePages, .num r.tagsInFlight,
      .num r.notices, .mark r.lost]

/-- R174, R179: the start-up state, with its result once READY. -/
def StartUp.fields : StartUp → List Field
  | .starting => [.named (.startUp false), .absent]
  | .ready r => [.named (.startUp true), .named (.startResult r)]

/-- R174: IDENTIFY. -/
def Identity.fields (i : Identity) : List Field :=
  [.text i.vendor, .text i.part, .num i.revision] ++ i.capacities.map Field.num ++ i.startUp.fields

/-- R32: a cue summary. -/
def CueSummary.fields (c : CueSummary) : List Field := [.num c.number, .num c.entries, .opt c.followMs, .opt c.tcFrame]

/-- R32: READ LIST, its mark *created* first, then the lock flag. The rule prints no code for either: that 1 is created and 0 free,
and 1 locked and 0 unlocked, is the model's choice (notes/assumptions/5.md), whatever the lock codes of SET LIST LOCK
(notes/assumptions/3.md). -/
def ListReport.fields : ListReport → List Field
  | .free => [.mark false]
  | .created locked cues entries summaries more =>
    [.mark true, .mark locked, .num cues, .num entries] ++ listFields CueSummary.fields summaries ++ [.mark more]

/-- R24: the presence marks of an entry. -/
def Entry.marks (e : Entry) : Nat :=
  e.pan.isSome.toNat + 2 * e.tilt.isSome.toNat + 4 * e.intensity.isSome.toNat + 8 * e.colour.isSome.toNat

/-- R24: an entry: head id, marks, and the values present. -/
def Entry.fields (e : Entry) : List Field :=
  [.sized 2 e.head, .sized 1 e.marks] ++ e.pan.toList.map (.sized 4) ++ e.tilt.toList.map (.sized 4)
    ++ e.intensity.toList.map (.sized 2)
    ++ e.colour.toList.flatMap (fun c => [.sized 2 c.red, .sized 2 c.green, .sized 2 c.blue])

/-- R33, R24: READ CUE. Its fixed part of 32 bytes, the status byte included, is that of R24's widths; the marks of follow_ms and
tc_frame stand where STORE CUE has them, and an absent one of them is sent as 0; the next head takes its 2 bytes when there is
none too, and what they then hold is free (notes/assumptions/5.md). -/
def CueReport.fields (r : CueReport) : List Field :=
  [.sized 2 r.cue.number, .sized 1 (r.cue.followMs.isSome.toNat + 2 * r.cue.tcFrame.isSome.toNat), .sized 4 r.cue.fadeMs,
    .sized 4 r.cue.moveMs, .sized 4 r.cue.colourMs, .sized 4 r.cue.delayMs, .sized 4 (r.cue.followMs.getD 0),
    .sized 4 (r.cue.tcFrame.getD 0), .sized 2 r.entries]
    ++ r.cue.entries.flatMap Entry.fields ++ [.sizedOrAbsent 2 r.nextHead]

/-- R35: the settings of a layer. -/
def LayerSettings.fields (c : LayerSettings) : List Field :=
  [.named (.layerMode c.mode), .orNone c.list, .num c.precedence, .num c.master, .named (.intensityMode c.intensityMode),
    .num c.releaseMs, .num c.chaseBeats]

/-- R57: READ LAYER. -/
def LayerReport.fields (r : LayerReport) : List Field :=
  [.named (.layerState r.state), r.pausedFrom.elim .absent (fun f => .named (.pausedFrom f))] ++ r.settings.fields
    ++ [.opt r.currentCue, .opt r.followMs, .num r.chaseCount, .opt r.refusedTarget, .num r.slots, .num r.releaseSlots,
      .orNone r.position, .num r.freeSlots]

/-- R93, R102: a zone record. -/
def Zone.fields (z : Zone) : List Field :=
  [.mark z.active, .num z.group, .num z.panMin, .num z.panMax, .num z.tiltMin, .num z.tiltMax]

/-- R110: a generator. -/
def Generator.fields (g : Generator) : List Field := [.num g.rate, .mark g.running, .mark g.on, .num g.count]

/-- R130: an action: its code, and its field when it has one. -/
def Action.fields : Action → List Field
  | .none => [.named (.action .none), .absent]
  | .go l => [.named (.action .go), .num l]
  | .release l => [.named (.action .release), .num l]
  | .pause l => [.named (.action .pause), .num l]
  | .resume l => [.named (.action .resume), .num l]
  | .kill l => [.named (.action .kill), .num l]
  | .hold => [.named (.action .hold), .absent]
  | .park => [.named (.action .park), .absent]
  | .run => [.named (.action .run), .absent]
  | .setMask v => [.named (.action .setMask), .num v]

/-- R130: a trigger map entry. -/
def TriggerEntry.fields (e : TriggerEntry) : List Field := e.action.fields ++ [.num e.precedence]

/-- R136: the settings of a line. -/
def LineSettings.fields (c : LineSettings) : List Field :=
  [.mark c.enabled, .num c.refreshMs, .num c.maxWait, .num c.auditMs]

/-- R150: an origin, with its tag for CONSOLE. -/
def Origin.fields : Origin → List Field
  | .console tag => [.named (.origin (.console 0)), .bytes [tag]]
  | .audit => [.named (.origin .audit), .absent]
  | .supervision => [.named (.origin .supervision), .absent]

/-- R150: a query entry. -/
def QueryEntry.fields (e : QueryEntry) : List Field :=
  [.num e.head, .named (.queryKind e.kind), .named (.priority e.priority)] ++ e.origin.fields

/-- R150: the exchange in progress. -/
def ExchangeReport.fields (r : ExchangeReport) : List Field :=
  [.num r.head, .named (.queryKind r.kind)] ++ r.origin.fields ++ [.mark r.discarded]

/-- R150: READ LINE. -/
def LineReport.fields (r : LineReport) : List Field :=
  r.settings.fields
    ++ [.num r.slotCount, .num r.frameTime, .num r.effectiveMs, .named (.turn r.turn), .mark r.refreshDue,
      .opt r.refreshRemaining, .num r.wait, .named (.priority r.priority)]
    ++ listFields QueryEntry.fields r.queue ++ r.exchange.elim [.absent] ExchangeReport.fields
    ++ listFields (fun e => [.num e.head, .num e.pan, .num e.tilt]) r.snapshot

/-- R146, R149: what a fixture reported. -/
def Reported.fields (r : Reported) : List Field := [.mark r.homing, .num r.pan, .num r.tilt] ++ r.faults.fields

/-! ## Fields of the replies and notices -/

/-- The fields of a reply after its status byte. That a mark is 1 for replaced and 0 for inserted in the reply to STORE CUE (R27),
and what 1 says in every other mark here, is the model's choice (notes/assumptions/5.md). -/
def ReplyBody.fields : ReplyBody → List Field
  | .bare => []
  | .identity i => i.fields
  | .rig r => r.fields
  | .head r => r.fields
  | .rigReset notices aborted => [.num notices, .num aborted]
  | .saved pages bytes => [.num pages, .num bytes]
  | .loaded heads cues entries => [.num heads, .num cues, .num entries]
  | .imageState i => [.named (.imageState i)]
  | .footprint slots => [.num slots]
  | .patched slots slotCount old kept => [.num slots, .num slotCount, .opt old, .mark kept]
  | .unpatched fadeSlots entries aborted => [.num fadeSlots, .num entries, .num aborted]
  | .members n => [.num n]
  | .storedCue replaced cues freeCues freeEntries => [.mark replaced, .num cues, .num freeCues, .num freeEntries]
  | .appended added replaced entries freeEntries => [.num added, .num replaced, .num entries, .num freeEntries]
  | .deletedCue cues freeCues freeEntries => [.num cues, .num freeCues, .num freeEntries]
  | .deletedList cues entries layers freeCues freeEntries =>
    [.num cues, .num entries, .num layers, .num freeCues, .num freeEntries]
  | .list r => r.fields
  | .cue r => r.fields
  | .took taken made again missed free => [.num taken, .num made, .num again, .num missed, .num free]
  | .wentTo taken made again freed missed free =>
    [.num taken, .num made, .num again, .num freed, .num missed, .num free]
  | .layerState x => [.named (.layerState x)]
  | .rebased slots => [.num slots]
  | .removed slots => [.num slots]
  | .layer r => r.fields
  | .mask before after => [.num before, .num after]
  | .modeBefore m => [.named (.rigMode m)]
  | .douse asserted latch => [.mark asserted, .mark latch]
  | .zoneLatch set => [.mark set]
  | .zone z latch => z.fields ++ [.mark latch]
  | .generator g => g.fields
  | .written records => [.num records]
  | .tempo period => [.num period]
  | .beatSource source setting => [.named (.beatSource source), .named (.beatSetting setting)]
  | .trigger entry pending => entry.fields ++ [.mark pending]
  | .floor before after acted => [.num before, .num after, .num acted]
  | .cleared lines => listFields (fun l => [.num l.1, .mark l.2]) lines
  | .triggerRead entry pending above => entry.fields ++ [.mark pending, .mark above]
  | .lineSettings c effective => c.fields ++ [.num effective]
  | .line r => r.fields
  | .reported r => r.fields
  | .rehome place => [.opt place]
  | .conditionBefore c => [.named (.condition c)]
  | .audit limit count => [.num limit, .num count]

/-- R131: the outcome of a trigger action. -/
def TriggerOutcome.fields : TriggerOutcome → List Field
  | .layerState x => [.named (.layerState x)]
  | .modeBefore m => [.named (.rigMode m)]
  | .mask before after => [.num before, .num after]

/-- The fields of a notice after its flags byte. R56 and R131 name the fields of TAKE_FAILED in different orders; the one order sent
for every source, the trigger line third and absent where there is none, is the model's choice (notes/assumptions/5.md). -/
def Notice.fields : Notice → List Field
  | .start result revision pages latch line =>
    [.named (.startResult result), .num revision, .opt pages, .mark latch, .mark line]
  | .cueTaken layer taken source kind => [.num layer, .num taken, .named (.takeSource source), .named (.takeKind kind)]
  | .takeFailed layer source line status aimed =>
    [.num layer, .named (.takeSource source), .opt line, .bytes [status.code], .opt aimed]
  | .triggerTaken line action outcome => .num line :: action.fields ++ outcome.fields
  | .douse latch line cause => [.mark latch, .mark line, .named (.douseCause cause)]
  | .beatSource source setting period intervals cause =>
    [.named (.beatSource source), .named (.beatSetting setting), .num period, .num intervals, .named (.beatCause cause)]
  | .timecode locked frame => [.mark locked, .num frame]
  | .headCondition head before after cause strikes misses =>
    [.num head, .named (.condition before), .named (.condition after), .named (.conditionCause cause), .num strikes, .num misses]
  | .fault head before after condition =>
    .num head :: before.fields ++ after.fields ++ [.named (.condition condition)]

/-! ## Frames -/

/-- The fields of a frame being sent, after its first body byte. -/
def Outgoing.fields : Outgoing → List Field
  | .reply r => r.body.fields
  | .notice n _ => n.fields

/-- R166: the body of a frame being sent: the status or flags byte, then the fields. -/
def Outgoing.body (o : Outgoing) : List Byte :=
  o.head.2.2 :: fieldBytes o.head.1 0 o.fields

/-- R166: the bytes of a frame being sent. -/
def Outgoing.frame (o : Outgoing) : List Byte :=
  frameBytes o.head.1 o.head.2.1 o.body

/-- R166: the time a frame takes to send, in µs. -/
def Outgoing.sendTime (o : Outgoing) : Nat :=
  5 * o.frame.length

end Sys2Proof.Machine
end

