-- ==== Sys2Proof/WellFormed.lean ====
section
/-! DEFINITION. When the operands of a command are ones that its row can carry: the bytes of a request frame are one whole
frame, the characters of a timecode message are a valid message, and the fields of a request fit the body of R168. The meanings
are total and do not ask for it. -/

namespace Sys2Proof

open Machine

/-- R166, R167: the bytes are one whole frame with its own check, of a body of at most 1,024 bytes. -/
def frameWhole (bytes : List Byte) : Bool :=
  let body := (bytes.drop 5).take (bytes.length - 7)
  decide (7 ≤ bytes.length) && decide (body.length ≤ Config.maxBody)
    && decide (bytes = frameBytes (byteAt bytes 3) (byteAt bytes 4) body)

/-- R127: the characters are one valid message. -/
def messageValid (chars : List Byte) : Bool :=
  (timecodeFrame chars).isSome

/-- A number fits a field of `len` bytes. -/
def fitsField (len n : Nat) : Bool :=
  decide (n < 256 ^ len)

/-- A field that its rule clamps, carried without sign in `len` bytes. -/
def fitsInt (len : Nat) (v : Int) : Bool :=
  decide (0 ≤ v ∧ v < 256 ^ len)

/-- R24: the bytes that entries take. -/
def entriesSize (es : List EntryReq) : Nat :=
  total (es.map entryReqSize)

/-- R24: the fields of an entry fit. -/
def entryFits (e : EntryReq) : Bool :=
  fitsField 2 e.head && e.pan.all (fitsInt 4) && e.tilt.all (fitsInt 4)

/-- R24, R168: the body of a STORE CUE. -/
def cueReqFits (c : CueReq) : Bool :=
  fitsField 1 c.list && fitsInt 4 c.fadeMs && fitsInt 4 c.moveMs && fitsInt 4 c.colourMs && fitsInt 4 c.delayMs
    && c.followMs.all (fitsInt 4) && c.tcFrame.all (fitsInt 4) && c.entries.all entryFits
    && decide (30 + entriesSize c.entries ≤ Config.maxBody)

/-- R24, R168: the body of an APPEND ENTRIES. -/
def appendFits (list : Nat) (es : List EntryReq) : Bool :=
  fitsField 1 list && es.all entryFits && decide (5 + entriesSize es ≤ Config.maxBody)

/-- R168: the fields of a role entry fit. -/
def roleReqFits (r : RoleReq) : Bool :=
  fitsField 1 r.offset && fitsField 1 r.width && fitsInt 2 r.fixed

/-- R168: the body of a DEFINE PERSONALITY. -/
def personalityFits (p : PersonalityReq) : Bool :=
  fitsField 1 p.id && fitsInt 4 p.panRange && fitsInt 4 p.tiltRange && decide (p.gains.length ≤ 4)
    && fitsInt 2 p.defaultSpeed && fitsInt 2 p.defaultAccel && p.roles.all roleReqFits
    && decide (27 + 5 * p.roles.length ≤ Config.maxBody)

/-- R168: the body of a SET HEAD. -/
def headReqFits (h : HeadReq) : Bool :=
  fitsField 2 h.head && fitsInt 4 h.homePan && fitsInt 4 h.homeTilt && fitsInt 4 h.parkPan && fitsInt 4 h.parkTilt

/-- The id of a blink target fits. -/
def targetFits : BlinkTarget → Bool
  | .head h => fitsField 2 h
  | .group g => fitsField 2 g

/-- The field of a trigger action fits. -/
def actionFits : ActionReq → Bool
  | .go l | .release l | .pause l | .resume l | .kill l => fitsField 1 l
  | .setMask v => fitsInt 1 v
  | .none | .hold | .park | .run => true

/-- R168: the body of a CONFIGURE LINE. -/
def lineReqFits (c : LineReq) : Bool :=
  fitsField 1 c.line && fitsInt 2 c.refreshPeriod && fitsInt 1 c.routineMaxWait && fitsInt 2 c.auditInterval

/-- The operands of a command are ones that its row can carry. -/
def Instr.wellFormed : Instr → Bool
  | .requestFrame _ bytes => frameWhole bytes
  | .timecodeMessage _ chars => messageValid chars
  | .definePersonality _ _ p => personalityFits p
  | .setHead _ _ h => headReqFits h
  | .storeCue _ _ c => cueReqFits c
  | .appendEntries _ _ list _ es _ => appendFits list es
  | .setZone _ _ z => fitsField 1 z.zone && fitsField 1 z.group
  | .configureLine _ _ c => lineReqFits c
  | .readHead _ _ n | .unpatchHead _ _ n | .rehomeHead _ _ n | .clearCondition _ _ n | .queryHead _ _ n _ =>
    fitsField 2 n
  | .createList _ _ n | .setListLock _ _ n _ | .deleteCue _ _ n _ | .deleteList _ _ n | .readList _ _ n _
  | .go _ _ n | .goto _ _ n _ | .pause _ _ n | .resume _ _ n | .release _ _ n | .kill _ _ n | .setMaster _ _ n _
  | .setIntensityMode _ _ n _ | .setLayerMode _ _ n _ | .readLayer _ _ n | .clearZone _ _ n | .readZone _ _ n
  | .readTrigger _ _ n | .readLine _ _ n | .defineGroup _ _ n _ => fitsField 1 n
  | .setPrecedence _ _ n v | .setChaseBeats _ _ n v => fitsField 1 n && fitsInt 1 v
  | .setReleaseTime _ _ n v => fitsField 1 n && fitsInt 4 v
  | .assignList _ _ n list => fitsField 1 n && list.all (fun k => decide (k < 255))
  | .clearTrigger _ _ line => line.all (fun k => decide (k < 255))
  | .readCue _ _ n _ h => fitsField 1 n && fitsField 2 h
  | .patchHead _ _ h p l b => fitsField 2 h && fitsField 1 p && fitsField 1 l && fitsField 2 b
  | .setHeadLimits _ _ h v a => fitsField 2 h && fitsInt 2 v && fitsInt 2 a
  | .setBlinkGenerator _ _ g r _ => fitsField 1 g && fitsInt 1 r
  | .setBlinkAssignment _ _ tg g _ => tg.all targetFits && g.all (fun k => decide (k < 255))
  | .setTempo _ _ v => fitsInt 4 v
  | .setMask _ _ v | .setTriggerFloor _ _ v | .setAudit _ _ v => fitsInt 1 v
  | .setTrigger _ _ n a p => fitsField 1 n && a.all actionFits && fitsInt 1 p
  | .powerOnReset _ | .startUpComplete _ _ | .consoleByteGap _ _ | .consoleFrameDiscard _ _ | .transmitFrameEnd _
  | .identify _ _ | .readRig _ _ | .rigReset _ _ | .save _ _ | .saveComplete _ | .load _ _
  | .loadReplacementPoint _ _ | .hold _ _ | .park _ _ | .run _ _ | .clearDouse _ _ | .enableZoneWrite _ _
  | .setBeatSource _ _ _ | .layerStep _ | .followExpiry _ _ | .chaseCountExpiry _ _ | .blinkToggle _ _
  | .limiterStep _ | .douseAssert _ | .douseDeassert _ | .beatPulse _ | .internalBeatExpiry _
  | .subdivisionExpiry _ | .timecodeMessageDiscard _ _ | .timecodeLockExpiry _ | .triggerEdge _ _
  | .refreshTimerExpiry _ _ | .refreshFrameEnd _ _ | .queryFrameEnd _ _ | .replyFrameReceived _ _ _
  | .replyStartTimeout _ _ | .replyShortTimeout _ _ | .auditTimerExpiry _ _ | .supervisionPoll _
  | .homingDeadlineExpiry _ _ => true

end Sys2Proof
end

