-- ==== Sys2Proof/Safety.lean ====
section
/-! DEFINITION. What a safe run is, and the properties of a state that the rules promise of every state a run reaches. -/

namespace Sys2Proof.Machine

open Sys2Proof

/-- A run of `k` steps from `s` is safe: it neither faults nor is refused. -/
def SafeRun (k : Nat) (s : State) : Prop :=
  ∃ t, Host.Core.run core k s = .next t

/-- R172: the notice queue is within its capacity. -/
def State.NoticesBounded (s : State) : Prop :=
  s.link.notices.length ≤ Config.noticeCapacity

/-- The settings of a line let a routine query through: its routine max-wait is at least 1 (R136). -/
def LineSettings.Waits (c : LineSettings) : Prop :=
  1 ≤ c.maxWait

/-- Every line setting an image holds has a routine max-wait of at least 1. -/
def Image.LinesWait (i : Image) : Prop :=
  ∀ l, (Table.get LineSettings.powerOn i.lines l).Waits

/-- The images the store holds: the one in its region, and the one captured by a SAVE in flight. -/
def Store.images (st : Store) : List Image :=
  st.image.toList ++
    match st.activity with
    | .saving _ captured => [captured]
    | .idle => []
    | .loading _ => []

/-- R141, R143: each line's queue and wait counter are within their bounds. -/
def State.LinesBounded (s : State) : Prop :=
  (∀ l, (s.line l).queue.length ≤ Config.queryQueue ∧ (s.line l).wait ≤ (s.line l).settings.maxWait
      ∧ (s.line l).settings.Waits)
    ∧ ∀ i ∈ s.store.images, i.LinesWait

/-- R119, R120: the history holds at most 4 intervals, and every interval and the period are within the beat bounds. -/
def State.BeatBounded (s : State) : Prop :=
  s.inputs.beat.history.length ≤ 4
    ∧ (∀ i ∈ s.inputs.beat.history, Config.minBeatUs ≤ i ∧ i ≤ Config.maxBeatUs)
    ∧ Config.minBeatUs ≤ s.inputs.beat.period ∧ s.inputs.beat.period ≤ Config.maxBeatUs
    ∧ s.inputs.beat.missed ≤ 1

/-- R40: the take stack holds exactly the layers that are not IDLE, each once. -/
def State.StackHoldsTaken (s : State) : Prop :=
  s.playback.takeStack.Nodup ∧ ∀ l, l ∈ s.playback.takeStack ↔ (s.layer l).state ≠ .idle

/-- R152: the homing count does not exceed the homing limit, which is 1 to 16. -/
def State.HomingBounded (s : State) : Prop :=
  s.supervision.homingCount ≤ s.supervision.homingLimit
    ∧ 1 ≤ s.supervision.homingLimit ∧ s.supervision.homingLimit ≤ 16

/-- R70: while the douse line is asserted the latch is SET. -/
def State.DouseHeld (s : State) : Prop :=
  s.merge.douseLine = true → s.merge.douseLatch = true

/-- R64, R132: the mask level and the trigger floor are 0 to 15. -/
def State.LevelsBounded (s : State) : Prop :=
  s.merge.mask ≤ 15 ∧ s.inputs.floor ≤ 15

/-- R6, R11: a patched head's home position lies within its personality's ranges. -/
def HomesInRange (personalities : Table (Option Personality)) (heads : Table HeadPatch) : Prop :=
  ∀ h p q, (Table.get HeadPatch.unpatched heads h).placement = some p →
    Table.get none personalities p.personality = some q →
      (Table.get HeadPatch.unpatched heads h).homePan ≤ q.panRange
        ∧ (Table.get HeadPatch.unpatched heads h).homeTilt ≤ q.tiltRange

/-- R85: an axis stands within its range and moves at most at the head's max speed. -/
def Axis.Within (x : Axis) (range speed : Nat) : Prop :=
  x.position ≤ range ∧ x.velocity.natAbs ≤ speed

/-- R85: every patched head's positions and velocities are within their bounds, and home positions within range, in the tables
and in the images that a LOAD can bring. -/
def State.MotionBounded (s : State) : Prop :=
  (∀ h q m, s.personalityOf h = some q → s.motion h = some m →
      m.pan.Within q.panRange (s.headPatch h).maxSpeed ∧ m.tilt.Within q.tiltRange (s.headPatch h).maxSpeed)
    ∧ HomesInRange s.patch.personalities s.patch.heads
    ∧ ∀ i ∈ s.store.images, HomesInRange i.personalities i.heads

/-- Every table of the state is in canonical form, with its numbers in range (notes/assumptions/23.md). -/
def State.tablesCanonical (s : State) : Bool :=
  Table.canonical none Config.personalities s.patch.personalities
    && Table.canonical HeadPatch.unpatched Config.heads s.patch.heads
    && Table.canonical 0#512 Config.groups s.patch.groups
    && Table.canonical none Config.cueLists s.cues.lists
    && Table.canonical Layer.powerOn Config.layers s.playback.layers
    && Table.canonical none Config.heads s.limiter.heads
    && Table.canonical Zone.cleared Config.zones s.zones.zones
    && Table.canonical Generator.powerOn Config.blinkGenerators s.effects.generators
    && Table.canonical Trigger.powerOn Config.triggerLines s.inputs.triggers
    && Table.canonical Line.powerOn Config.headLines s.lines.lines
    && Table.canonical Watch.unpatched Config.heads s.supervision.heads

end Sys2Proof.Machine
end

