-- ==== Sys2Proof/Certificates/Slice0/Obligations.lean ====
section
/-! DEFINITION. The statements for the provers.

Every conclusion about a command is written with `State.advance`, the reading of the rig time base that the command carries
(notes/assumptions/1.md), and with `State.startTransmit`, also inside `State.answered`: the transmit arbiter looks at its queues
when the command has been carried out (notes/assumptions/6.md). These two are the model's choices, in every statement below. -/

open Sys2Proof Sys2Proof.Machine

/-! ## The step and the queue -/

/-- A step takes the command at the front of the queue, whole. With no command waiting the block idles
(notes/assumptions/7.md). -/
def Obligations.StepRunsFrontCommand : Prop :=
  (∀ (s : State) (c : Instr) (rest : List Instr), s.pending = c :: rest →
    step s = exec c { s with pending := rest })
  ∧ (∀ s : State, s.pending = [] → step s = .next s)

/-- Every command is carried out whole in every state, and no command touches the queue of those that wait. -/
def Obligations.EveryCommandCompletesKeepingQueue : Prop :=
  ∀ (c : Instr) (s : State), ∃ u : State, exec c s = .next u ∧ u.pending = s.pending

/-! ## Invariants of every step -/

/-- R172: the notice queue never holds more than 64. R119, R120: the beat period stays a mean of accepted intervals. R64,
R132: the mask level and the trigger floor stay 0 to 15. R70: while the douse line is asserted the latch is SET. -/
def Obligations.BoundedRegistersStayBounded : Prop :=
  (∀ s u : State, s.NoticesBounded → step s = .next u → u.NoticesBounded)
  ∧ (∀ s u : State, s.BeatBounded → step s = .next u → u.BeatBounded)
  ∧ (∀ s u : State, s.LevelsBounded → step s = .next u → u.LevelsBounded)
  ∧ (∀ s u : State, s.DouseHeld → step s = .next u → u.DouseHeld)

/-- R141: "each line's query queue holds at most 8 entries, and its wait counter never exceeds its routine max-wait". -/
def Obligations.LineQueuesStayBounded : Prop :=
  ∀ s u : State, s.LinesBounded → step s = .next u → u.LinesBounded

/-- R40: a layer is in the take stack exactly when its state is not IDLE, and once. -/
def Obligations.TakeStackHoldsTakenLayers : Prop :=
  ∀ s u : State, s.StackHoldsTaken → step s = .next u → u.StackHoldsTaken

/-- R152: the homing count never exceeds the homing limit. -/
def Obligations.HomingCountStaysWithinLimit : Prop :=
  ∀ s u : State, s.HomingBounded → step s = .next u → u.HomingBounded

/-- R85: every patched head's positions stay within its ranges, its velocities within its max speed. -/
def Obligations.PositionsStayWithinRange : Prop :=
  ∀ s u : State, s.MotionBounded → step s = .next u → u.MotionBounded

/-! ## Console link -/

/-- R166, R167: the bytes of a whole frame, received while HUNTING, are handed on as that frame, once. R167: a frame whose
check differs is discarded without a reply, and the assembler hunts again. R167: a gap discards the frame and takes its byte
while HUNTING; the other discards leave the assembler HUNTING. -/
def Obligations.FramesAreHandedOnOrDiscarded : Prop :=
  (∀ (t : Nat) (kind tag : Byte) (body : List Byte) (s : State),
    body.length ≤ 1024 → s.link.assembler = .hunting →
      exec (.requestFrame t (frameBytes kind tag body)) s =
        .next ((s.advance t).handleFrame kind tag body).startTransmit)
  ∧ (∀ (t : Nat) (kind tag high low : Byte) (body : List Byte) (s : State),
    body.length ≤ 1024 → s.link.assembler = .hunting →
      high.toNat * 256 + low.toNat ≠ (crc (frameCore kind tag body)).toNat →
        exec (.requestFrame t (syncByte :: (frameCore kind tag body ++ [high, low]))) s =
          .next (s.advance t).startTransmit)
  ∧ (∀ (t : Nat) (next : Byte) (cause : FrameFault) (s : State),
    exec (.consoleByteGap t next) s =
        .next ((s.advance t).withAssembler (if next = 0xC3#8 then .assembling [] else .hunting)).startTransmit
      ∧ exec (.consoleFrameDiscard t cause) s = .next ((s.advance t).withAssembler .hunting).startTransmit)

/-- R169: the link's five checks of a request frame, in order, and then its owner. -/
def Obligations.LinkChecksSettleRequests : Prop :=
  ∀ (t : Nat) (kind tag : Byte) (body : List Byte) (s : State),
    body.length ≤ 1024 → s.link.assembler = .hunting →
      (32 ≤ s.immediateHeld →
        exec (.requestFrame t (frameBytes kind tag body)) s = .next (s.advance t).startTransmit)
      ∧ (s.immediateHeld < 32 → requestKinds.find? (fun r => r.code == kind) = none →
        exec (.requestFrame t (frameBytes kind tag body)) s = .next ((s.advance t).answered kind tag .badKind .bare))
      ∧ ∀ r, s.immediateHeld < 32 → requestKinds.find? (fun r => r.code == kind) = some r →
        (r.parse body = none →
          exec (.requestFrame t (frameBytes kind tag body)) s = .next ((s.advance t).answered kind tag .badLength .bare))
        ∧ ∀ own, r.parse body = some own →
          (s.startUp = .starting → kind ≠ 0x01#8 →
            exec (.requestFrame t (frameBytes kind tag body)) s = .next ((s.advance t).answered kind tag .starting .bare))
          ∧ ((s.startUp ≠ .starting ∨ kind = 0x01#8) → tag ∈ s.link.inFlight →
            exec (.requestFrame t (frameBytes kind tag body)) s = .next ((s.advance t).answered kind tag .tagBusy .bare))
          ∧ ((s.startUp ≠ .starting ∨ kind = 0x01#8) → tag ∉ s.link.inFlight →
            exec (.requestFrame t (frameBytes kind tag body)) s =
              .next ((s.advance t).serve tag kind own).startTransmit)

/-- R166, R168: a whole frame of thirteen of the kinds (IDENTIFY, READ HEAD, RIG RESET, SAVE, LOAD, UNPATCH HEAD, GO, GOTO,
KILL, SET MASTER, SET MASK, HOLD, and SET HEAD LIMITS with the high bytes of its head and acceleration 0) does what the row of
its request does. R168: the body lengths of the fixed-length kinds, and the three kinds whose length follows from what they
carry. -/
def Obligations.FramesOfThirteenKindsRunTheirRows : Prop :=
  (∀ (t : Nat) (tag a b c d : Byte) (s : State), s.link.assembler = .hunting →
    exec (.requestFrame t (frameBytes 0x01#8 tag [])) s = exec (.identify t tag) s
    ∧ exec (.requestFrame t (frameBytes 0x03#8 tag [a, b])) s = exec (.readHead t tag (a.toNat * 256 + b.toNat)) s
    ∧ exec (.requestFrame t (frameBytes 0x04#8 tag [])) s = exec (.rigReset t tag) s
    ∧ exec (.requestFrame t (frameBytes 0x05#8 tag [])) s = exec (.save t tag) s
    ∧ exec (.requestFrame t (frameBytes 0x06#8 tag [])) s = exec (.load t tag) s
    ∧ exec (.requestFrame t (frameBytes 0x12#8 tag [a, b])) s = exec (.unpatchHead t tag (a.toNat * 256 + b.toNat)) s
    ∧ exec (.requestFrame t (frameBytes 0x30#8 tag [a])) s = exec (.go t tag a.toNat) s
    ∧ exec (.requestFrame t (frameBytes 0x31#8 tag [a, b, c])) s = exec (.goto t tag a.toNat (b ++ c)) s
    ∧ exec (.requestFrame t (frameBytes 0x35#8 tag [a])) s = exec (.kill t tag a.toNat) s
    ∧ exec (.requestFrame t (frameBytes 0x36#8 tag [a, b, c])) s = exec (.setMaster t tag a.toNat (b ++ c)) s
    ∧ exec (.requestFrame t (frameBytes 0x40#8 tag [a])) s = exec (.setMask t tag a.toNat) s
    ∧ exec (.requestFrame t (frameBytes 0x41#8 tag [])) s = exec (.hold t tag) s
    ∧ exec (.requestFrame t (frameBytes 0x14#8 tag [0#8, a, b, c, 0#8, d])) s =
        exec (.setHeadLimits t tag a.toNat ((b.toNat * 256 + c.toNat : Nat) : Int) (d.toNat : Int)) s)
  ∧ ((∀ p ∈ ([(0x01, 0), (0x02, 0), (0x03, 2), (0x04, 0), (0x05, 0), (0x06, 0), (0x11, 6), (0x12, 2), (0x13, 28), (0x14, 6),
      (0x15, 65), (0x20, 1), (0x21, 2), (0x24, 3), (0x25, 1), (0x26, 3), (0x27, 5), (0x30, 1), (0x31, 3), (0x32, 1),
      (0x33, 1), (0x34, 1), (0x35, 1), (0x36, 3), (0x37, 2), (0x38, 2), (0x39, 5), (0x3A, 2), (0x3B, 2), (0x3C, 2),
      (0x3D, 1), (0x40, 1), (0x41, 0), (0x42, 0), (0x43, 0), (0x44, 0), (0x48, 0), (0x49, 19), (0x4A, 1), (0x4B, 1),
      (0x4C, 6), (0x50, 4), (0x51, 1), (0x52, 4), (0x53, 1), (0x54, 1), (0x55, 1), (0x58, 7), (0x59, 3), (0x5A, 1),
      (0x5C, 2), (0x5D, 2), (0x5E, 1)] : List (Byte × Nat)),
    ∃ r, requestKinds.find? (fun r => r.code == p.1) = some r ∧
      ∀ body : List Byte, (r.parse body).isSome = true ↔ body.length = p.2)
  ∧ (∃ r, requestKinds.find? (fun r => r.code == 0x10#8) = some r ∧
      ∀ body : List Byte, (r.parse body).isSome = true ↔ 27 ≤ body.length ∧ body.length = 27 + 5 * (byteAt body 26).toNat)
  ∧ (∃ r, requestKinds.find? (fun r => r.code == 0x22#8) = some r ∧
      ∀ body : List Byte, (r.parse body).isSome = true ↔
        30 ≤ body.length ∧ (parseEntries (fieldAt body 28 2) (body.drop 30)).isSome = true)
  ∧ (∃ r, requestKinds.find? (fun r => r.code == 0x23#8) = some r ∧
      ∀ body : List Byte, (r.parse body).isSome = true ↔
        5 ≤ body.length ∧ (parseEntries (fieldAt body 3 2) (body.drop 5)).isSome = true))

/-- R171, R172: the transmit arbiter, free again, sends the oldest reply, or otherwise the oldest notice with the lost mark.
R166, R168, R171, R172: the bytes of a frame being sent: the sync byte, the length, kind, tag, body and check, which the
assembler of R167 takes for that frame; 5 µs a byte. A reply repeats its request's kind and tag, its status byte first and
alone when it carries no field; a notice has tag 0 and its flags byte first, whose bits but bit 0 are 0 by the model's choice
(notes/assumptions/32.md). Numbers are sent high byte first, those with sign in two's complement; the widths of a reply's
fields are free (notes/assumptions/5.md), but for READ CUE's, whose fixed part is 32 bytes beside its entries, each in the
form of R24 (R33). -/
def Obligations.TransmitSendsRepliesFirst : Prop :=
  (∀ (t : Nat) (s : State), ∃ u : State, exec (.transmitFrameEnd t) s = .next u ∧
    (∀ r rs, s.link.replies = r :: rs →
      u = { s.advance t with link := { s.link with sending := some (.reply r), replies := rs } })
    ∧ (∀ n ns, s.link.replies = [] → s.link.notices = n :: ns →
      u = { s.advance t with
        link := { s.link with sending := some (.notice n s.link.lost), notices := ns, lost := false } })
    ∧ (s.link.replies = [] → s.link.notices = [] → u = { s.advance t with link := { s.link with sending := none } }))
  ∧ ((∀ o : Outgoing, ∃ (kind tag first : Byte) (rest core : List Byte), o.head = (kind, tag, first) ∧ o.body = first :: rest
      ∧ core = [BitVec.ofNat 8 (o.body.length / 256), BitVec.ofNat 8 o.body.length] ++ kind :: tag :: o.body
      ∧ o.frame = 0xC3#8 :: (core ++ [BitVec.ofNat 8 ((crc core).toNat / 256), BitVec.ofNat 8 (crc core).toNat])
      ∧ o.sendTime = (7 + o.body.length) * 5
      ∧ (o.body.length ≤ 1024 → assemble (o.frame.drop 1) = .frame kind tag o.body))
  ∧ (∀ r : Reply, (Outgoing.reply r).head = (r.kind, r.tag, r.status.code)
      ∧ (r.body = .bare → (Outgoing.reply r).body = [r.status.code]))
  ∧ (∀ (n : Notice) (lost : Bool), (Outgoing.notice n lost).head = (n.kindCode, 0#8, if lost then 1#8 else 0#8)
      ∧ 0xE0 ≤ n.kindCode.toNat ∧ n.kindCode.toNat ≤ 0xE8)
  ∧ (∀ w n : Nat, (toBytes w n).length = w ∧ ofBytes (toBytes w n) = n % 256 ^ w)
  ∧ (∀ (w : Nat) (v : Int), -(256 ^ w : Int) ≤ v → v < 256 ^ w →
      (ofBytes (signedBytes w v) : Int) = if v < 0 then v + 256 ^ w else v)
  ∧ (∀ (tag : Byte) (r : CueReport) (now : Bool), (Outgoing.reply ⟨0x27#8, tag, .ok, .cue r, now⟩).body.length =
      32 + (r.cue.entries.map (fun e => 3 + (if e.pan.isSome then 4 else 0) + (if e.tilt.isSome then 4 else 0)
        + (if e.intensity.isSome then 2 else 0) + (if e.colour.isSome then 6 else 0))).sum))

/-- R32, R33, R57, R102, R134, R150, R173, R174: the reads are answered OK at once and change nothing. -/
def Obligations.ReadsChangeNothing : Prop :=
  ∀ (t : Nat) (tag : Byte) (s : State), s.admits tag = true →
    exec (.identify t tag) s = .next ((s.advance t).answered 0x01#8 tag .ok
        (.identity ⟨"AZOWEN", "ORCHWELL 5120", 1, [512, 32, 64, 32, 12, 64, 4096, 65536, 16384, 16, 8, 4, 64], s.startUp⟩))
    ∧ exec (.readRig t tag) s = .next ((s.advance t).answered 0x02#8 tag .ok (.rig s.rigReport))
    ∧ (∀ h < 512, exec (.readHead t tag h) s =
        .next ((s.advance t).answered 0x03#8 tag .ok (.head ((s.advance t).headReport h))))
    ∧ (∀ n < 64, ∀ start, exec (.readList t tag n start) s =
        .next ((s.advance t).answered 0x26#8 tag .ok (.list (s.listReport n start.toNat))))
    ∧ (∀ n < 64, ∀ number : BitVec 16, ∀ h < 512, ∀ cl c, number ≠ 0 → s.list n = some cl →
        cl.cue number.toNat = some c → exec (.readCue t tag n number h) s =
          .next ((s.advance t).answered 0x27#8 tag .ok (.cue (c.report h))))
    ∧ (∀ l < 12, exec (.readLayer t tag l) s = .next ((s.advance t).answered 0x3D#8 tag .ok (.layer (s.layerReport l))))
    ∧ (∀ z < 32, exec (.readZone t tag z) s =
        .next ((s.advance t).answered 0x4B#8 tag .ok (.zone (s.zone z) s.zones.writeEnable)))
    ∧ (∀ n < 8, exec (.readTrigger t tag n) s = .next ((s.advance t).answered 0x55#8 tag .ok
        (.triggerRead (s.trigger n).entry (s.trigger n).pending (decide (s.inputs.floor < (s.trigger n).entry.precedence)))))
    ∧ (∀ l < 16, exec (.readLine t tag l) s =
        .next ((s.advance t).answered 0x5A#8 tag .ok (.line ((s.advance t).lineReport l))))

/-- R175 with each owner's table: what an accepted RIG RESET leaves. The timecode part is kept whole: R135 lists its
registers, and that the message being assembled is kept with them is the choice of log 21. An exchange whose query frame is
being sent is abandoned, one that waits for a reply ends at once, and the decision of that line follows the whole reset (R151,
log 11). -/
def Obligations.RigResetQuietsTheRig : Prop :=
  ∀ (t : Nat) (tag : Byte) (s : State), s.admits tag = true → s.StackHoldsTaken →
    Table.canonical Layer.powerOn Config.layers s.playback.layers = true →
    ∃ v : State, exec (.rigReset t tag) s = .next (v.answered 0x04#8 tag .ok (.rigReset s.link.notices.length
        (((List.range 16).map (fun l => (s.line l).abortedByReset)).foldl (· + ·) 0)))
      ∧ (∀ l < 12, v.layer l = (s.layer l).cleared) ∧ v.playback.takeStack = []
      ∧ v.merge = ⟨0, .run, s.merge.douseLine, s.merge.douseLine⟩
      ∧ v.link.notices = (if s.merge.douseLatch = s.merge.douseLine then []
          else [.douse s.merge.douseLine s.merge.douseLine .rigReset]) ∧ v.link.lost = false
      ∧ (∀ g < 4, v.generator g = { s.generator g with on := true, count := 0 })
      ∧ v.inputs.beat = { s.inputs.beat with history := [] } ∧ v.inputs.timecode = s.inputs.timecode ∧ v.inputs.floor = 0
      ∧ (∀ n < 8, v.trigger n = { s.trigger n with pending := false })
      ∧ v.zones.writeEnable = false ∧ v.zones.zones = s.zones.zones
      ∧ (∀ l < 16, (v.line l).queue = [] ∧ (v.line l).wait = 0 ∧ (v.line l).auditCursor = none
          ∧ (v.line l).settings = (s.line l).settings ∧ (v.line l).auditTimer = (s.line l).auditTimer)
      ∧ (∀ l < 16, (s.line l).turn = .idle → (v.line l).turn = .idle)
      ∧ (∀ l < 16, ∀ slots, (s.line l).turn = .frame slots → (v.line l).turn = .frame slots)
      ∧ (∀ l < 16, ∀ x, (s.line l).turn = .exchange x →
          (x.phase = .sending → (v.line l).turn = .exchange { x with abandoned := true })
          ∧ (∀ w, x.phase = .window w → (s.line l).refreshDue = false → (v.line l).turn = .idle)
          ∧ (∀ w, x.phase = .window w → (s.line l).settings.enabled = true → (s.line l).refreshDue = true → 0 < s.slotCount l →
            (v.line l).turn = .frame (0x00#8 :: v.frameSlots l)))
      ∧ (∀ h, v.watch h = Watch.unpatched) ∧ v.supervision.rehomeQueue = [] ∧ v.supervision.homingCount = 0
      ∧ v.supervision.homingLimit = s.supervision.homingLimit
      ∧ v.patch = s.patch ∧ v.cues = s.cues ∧ v.limiter = s.limiter ∧ v.store = s.store ∧ v.startUp = s.startUp

/-! ## Reset, start-up and the show store -/

/-- The reset tables of every chapter (R1, R6, R16, R18, R35, R74, R92, R93, R97, R118, R135, R136, R152, R180), and the
timers that run from power-on, of the layer step (R39), the limiter step (R78) and the supervision poll (R155): what a
power-on reset leaves. The time base's restart at 0 is the model's choice (notes/assumptions/1.md). The invariants hold of the
state after a power-on reset of a part that has never saved. -/
def Obligations.PowerOnResetValues : Prop :=
  (∀ (d : Bool) (s : State), ∃ u : State, exec (.powerOnReset d) s = .next u ∧ u.now = 0
    ∧ u.startUp = .starting ∧ u.link = ⟨.hunting, [], [], [], false, none⟩
    ∧ u.store = { s.store with activity := .idle }
    ∧ (∀ p, u.personality p = none) ∧ (∀ h, u.headPatch h = HeadPatch.unpatched) ∧ (∀ g, u.group g = 0)
    ∧ (∀ n, u.list n = none) ∧ u.freeCues = 4096 ∧ u.freeEntries = 65536
    ∧ (∀ l, u.layer l = ⟨⟨.manual, none, 8, 65535, .latest, 2000, 1⟩, .idle, none, 0, none, none, none, []⟩)
    ∧ u.playback.takeStack = [] ∧ u.freeSlots = 16384
    ∧ u.playback.stepTimer = 4000 ∧ u.limiter.stepTimer = 4000 ∧ u.supervision.pollTimer = 250000
    ∧ u.merge = ⟨0, .run, d, d⟩ ∧ (∀ h, u.motion h = none)
    ∧ (∀ z, u.zone z = ⟨false, 0, 0, 0, 0, 0⟩) ∧ u.zones.writeEnable = false
    ∧ (∀ g, u.generator g = ⟨4, false, true, 0⟩)
    ∧ u.inputs.beat = ⟨.internal, .auto, 500000, [], none, 500000, 0, none⟩
    ∧ u.inputs.timecode = ⟨false, 0, none, []⟩ ∧ (∀ n, u.trigger n = ⟨false, none, ⟨.none, 1⟩⟩) ∧ u.inputs.floor = 0
    ∧ (∀ l, u.line l = ⟨⟨true, 100, 4, 200⟩, .idle, false, none, [], 0, some 200000, none, []⟩ ∧ u.slotCount l = 0)
    ∧ (∀ h, u.watch h = ⟨.active, 0, 0, none, .none, none⟩)
    ∧ u.supervision.rehomeQueue = [] ∧ u.supervision.homingCount = 0 ∧ u.supervision.homingLimit = 4
    ∧ u.pending = s.pending)
  ∧ (State.reset.NoticesBounded ∧ State.reset.LinesBounded ∧ State.reset.BeatBounded ∧ State.reset.StackHoldsTaken
    ∧ State.reset.HomingBounded ∧ State.reset.DouseHeld ∧ State.reset.LevelsBounded ∧ State.reset.MotionBounded
    ∧ State.reset.tablesCanonical = true)

/-- R174, R169: while STARTING, IDENTIFY is answered OK, and READ RIG, GO and RIG RESET are answered STARTING. R179: start-up
ends by the state word, with a START notice; the tables stay as they are without a valid image. `sum` is the sum of the
image's bytes as they are read, that of the bytes written or another (notes/assumptions/8.md). -/
def Obligations.StartUpEndsByStateWord : Prop :=
  (∀ (t : Nat) (tag : Byte) (s : State), s.startUp = .starting → s.immediateHeld < 32 → tag ∉ s.link.inFlight →
    exec (.identify t tag) s = .next ((s.advance t).answered 0x01#8 tag .ok
      (.identity ⟨"AZOWEN", "ORCHWELL 5120", 1, [512, 32, 64, 32, 12, 64, 4096, 65536, 16384, 16, 8, 4, 64], .starting⟩))
    ∧ exec (.readRig t tag) s = .next ((s.advance t).answered 0x02#8 tag .starting .bare)
    ∧ (∀ l, exec (.go t tag l) s = .next ((s.advance t).answered 0x30#8 tag .starting .bare))
    ∧ exec (.rigReset t tag) s = .next ((s.advance t).answered 0x04#8 tag .starting .bare))
  ∧ (∀ (t : Nat) (altered : Option (BitVec 32)) (s : State), s.startUp = .starting →
    (s.store.word = .never → exec (.startUpComplete t altered) s =
      .next (({ s.advance t with startUp := .ready .empty }).notify
        (.start .empty 1 none s.merge.douseLatch s.merge.douseLine)).startTransmit)
    ∧ (s.store.word = .writing → exec (.startUpComplete t altered) s =
      .next (({ s.advance t with startUp := .ready .invalid }).notify
        (.start .invalid 1 none s.merge.douseLatch s.merge.douseLine)).startTransmit)
    ∧ ∀ (i : Image) (sum : BitVec 32), s.store.word = .written → s.store.image = some i →
      (altered = none ∧ sum = i.check ∨ altered = some sum) →
      (sum ≠ s.store.check → exec (.startUpComplete t altered) s =
        .next (({ s.advance t with startUp := .ready .invalid, store := { s.store with sum := sum } }).notify
          (.start .invalid 1 none s.merge.douseLatch s.merge.douseLine)).startTransmit)
      ∧ (sum = s.store.check →
        ∃ v : State, exec (.startUpComplete t altered) s = .next ((({ v with startUp := .ready .loaded } : State).notify
            (.start .loaded 1 (some (imagePages i.bytes)) s.merge.douseLatch s.merge.douseLine)).startTransmit)
          ∧ v.patch = ⟨i.personalities, i.heads, i.groups⟩ ∧ v.zones = ⟨i.zones, false⟩ ∧ v.cues = ⟨i.lists⟩
          ∧ (∀ n < 8, (v.trigger n).entry = Table.get TriggerEntry.powerOn i.triggers n)
          ∧ (∀ l < 16, (v.line l).settings = Table.get LineSettings.powerOn i.lines l)
          ∧ (∀ l < 12, (v.layer l).settings = Table.get LayerSettings.powerOn i.layers l)))

/-- R177: an accepted SAVE captures the tables, and its end writes what was captured, with its check. R178: an accepted LOAD,
and the end of its reading when the check differs from the sum of the bytes read. R176: the length of an image, its check, and
the image state, VALID when the word is WRITTEN and the check matches. -/
def Obligations.SaveAndLoadStartAndEnd : Prop :=
  ((∀ (t : Nat) (tag : Byte) (s : State), s.admits tag = true → s.storeBusy = false →
    exec (.save t tag) s = .next (({ s.advance t with
      store := ⟨.writing, s.store.check, s.store.sum, none, .saving tag s.capture⟩ }).deferredTag tag).startTransmit)
  ∧ ∀ (t : Nat) (tag : Byte) (i : Image) (s : State), s.store.activity = .saving tag i →
    exec (.saveComplete t) s = .next ((({ s.advance t with
      store := ⟨.written, i.check, i.check, some i, .idle⟩ }).answerDeferred
      0x05#8 tag .ok (.saved (imagePages i.bytes) i.bytes)).startTransmit))
  ∧ ((∀ (t : Nat) (tag : Byte) (s : State), s.admits tag = true → s.store.activity = .idle →
    (∀ l < 12, (s.layer l).state = .idle) → s.store.word = .written → s.store.sum = s.store.check →
      s.store.image.isSome = true → exec (.load t tag) s =
        .next (({ s.advance t with store := { s.store with activity := .loading tag } }).deferredTag tag).startTransmit)
  ∧ ∀ (t : Nat) (tag : Byte) (altered : Option (BitVec 32)) (i : Image) (sum : BitVec 32) (s : State),
    s.store.activity = .loading tag → s.store.image = some i → (altered = none ∧ sum = i.check ∨ altered = some sum) →
    sum ≠ s.store.check → exec (.loadReplacementPoint t altered) s =
      .next ((({ s.advance t with store := { s.store with sum := sum, activity := .idle } }).answerDeferred
        0x06#8 tag .notFound .bare).startTransmit))
  ∧ ((∀ i : Image, i.content.length = 38720 + 16 * (Cues.all ⟨i.lists⟩).length + 20 * entryCount (Cues.all ⟨i.lists⟩)
      ∧ i.bytes = i.content.length ∧ i.check.toNat = ((i.content.map BitVec.toNat).foldl (· + ·) 0) % 2 ^ 32)
  ∧ ∀ st : Store, (st.word = .never → st.imageState = .empty) ∧ (st.word = .writing → st.imageState = .invalid)
      ∧ (st.word = .written → st.image.isSome = true → st.sum = st.check → st.imageState = .valid)
      ∧ (st.word = .written → st.sum ≠ st.check → st.imageState = .invalid))

/-- R178 with R91, R97, R135, R151, R165: what the replacement point leaves, the check matching. A snapshot is emptied; a line
the LOAD sets refresh due on may have started a frame, which fills it again. That the layers' running state is left whole, a
refused timecode target with it, is log 26's reading of R35; that the timecode part is kept whole, the message being assembled
with the registers that R135 lists, is the choice of log 21. -/
def Obligations.LoadReplacesEveryTable : Prop :=
  ∀ (t : Nat) (tag : Byte) (altered : Option (BitVec 32)) (i : Image) (s : State), s.store.activity = .loading tag →
    s.store.image = some i → (altered = none ∧ i.check = s.store.check ∨ altered = some s.store.check) →
    ∃ v : State, exec (.loadReplacementPoint t altered) s = .next ((v.answerDeferred 0x06#8 tag .ok v.loadedReply).startTransmit)
      ∧ v.patch = ⟨i.personalities, i.heads, i.groups⟩ ∧ v.zones = ⟨i.zones, false⟩ ∧ v.cues = ⟨i.lists⟩
      ∧ (∀ n < 8, v.trigger n = ⟨false, (s.trigger n).lastEdge, Table.get TriggerEntry.powerOn i.triggers n⟩)
      ∧ (∀ l < 16, (v.line l).settings = Table.get LineSettings.powerOn i.lines l ∧ (v.line l).queue = []
          ∧ (v.line l).wait = 0 ∧ (v.line l).auditCursor = none)
      ∧ (∀ l < 16, ∀ x, (s.line l).turn = .exchange x →
          (v.line l).turn = .exchange { x with discard := .loaded } ∧ (v.line l).snapshot = [])
      ∧ (∀ l < 16, ∀ slots, (s.line l).turn = .frame slots → (v.line l).turn = .frame slots ∧ (v.line l).snapshot = [])
      ∧ (∀ l < 16, (s.line l).turn = .idle → (v.line l).turn = .idle ∧ (v.line l).snapshot = []
          ∨ (v.line l).turn = .frame (0x00#8 :: v.frameSlots l) ∧ (v.line l).snapshot = v.frameSnapshot l)
      ∧ (∀ h, v.patched h = false → v.motion h = none)
      ∧ (∀ h, v.patched h = true →
          (s.patched h = false ∨ (s.placement h).map Placement.personality ≠ (v.placement h).map Placement.personality
            ∨ (s.personalityOf h).map Personality.ranges ≠ (v.personalityOf h).map Personality.ranges) →
          v.motion h = some ⟨⟨(v.headPatch h).homePan, 0⟩, ⟨(v.headPatch h).homeTilt, 0⟩, 0⟩)
      ∧ (∀ h m, v.patched h = true → s.patched h = true →
          (s.placement h).map Placement.personality = (v.placement h).map Placement.personality →
          (s.personalityOf h).map Personality.ranges = (v.personalityOf h).map Personality.ranges → s.motion h = some m →
          v.motion h = some ⟨⟨m.pan.position, cutVelocity (v.headPatch h).maxSpeed m.pan.velocity⟩,
            ⟨m.tilt.position, cutVelocity (v.headPatch h).maxSpeed m.tilt.velocity⟩, m.settle⟩)
      ∧ (∀ l < 12, v.layer l = { s.layer l with settings := Table.get LayerSettings.powerOn i.layers l })
      ∧ (∀ h, v.watch h = Watch.unpatched) ∧ v.supervision.rehomeQueue = [] ∧ v.supervision.homingCount = 0
      ∧ v.supervision.homingLimit = s.supervision.homingLimit ∧ v.store.activity = .idle
      ∧ v.merge = s.merge ∧ v.effects = s.effects ∧ v.inputs.beat = s.inputs.beat ∧ v.inputs.timecode = s.inputs.timecode
      ∧ v.inputs.floor = s.inputs.floor ∧ v.playback.takeStack = s.playback.takeStack

/-- R176 to R178: what a SAVE captured, a later LOAD of that image, read as it was written, brings back, table by table; its
check matches. -/
def Obligations.SavedShowLoadsBack : Prop :=
  ∀ (t1 t2 t3 : Nat) (tag tag2 : Byte) (s s1 s2 u v : State), s.admits tag = true → s.storeBusy = false →
    exec (.save t1 tag) s = .next s1 → exec (.saveComplete t2) s1 = .next s2 →
    u.store.image = s2.store.image → u.store.check = s2.store.check → u.store.activity = .loading tag2 →
    exec (.loadReplacementPoint t3 none) u = .next v →
      s2.store.imageState = .valid ∧ v.patch = s.patch ∧ v.zones.zones = s.zones.zones ∧ v.cues = s.cues
      ∧ (∀ n < 8, (v.trigger n).entry = (s.trigger n).entry)
      ∧ (∀ l < 16, (v.line l).settings = (s.line l).settings)
      ∧ (∀ l < 12, (v.layer l).settings = (s.layer l).settings)

/-! ## Patch -/

/-- R2 to R5: an accepted DEFINE PERSONALITY stores the clamped fields, its map ascending by offset, and gives the footprint.
-/
def Obligations.DefinePersonalityStores : Prop :=
  ∀ (t : Nat) (tag : Byte) (p : PersonalityReq) (sys : ColourSystem) (fb : Bool) (s : State), s.admits tag = true →
    s.storeBusy = false → p.id < 32 → p.system = some sys → p.feedback = some fb → s.personalityInUse p.id = false →
    structureFits p = true →
      ∃ q : Personality, exec (.definePersonality t tag p) s =
          .next (((s.advance t).setPersonality p.id q).answered 0x10#8 tag
            (if personalityClamps p then .clamped else .ok) (.footprint (footprint q.channelMap)))
        ∧ q.panRange = clamp 100 72000 p.panRange ∧ q.tiltRange = clamp 100 72000 p.tiltRange ∧ q.system = sys
        ∧ q.gains = p.gains.map BitVec.toNat ∧ q.shutterOpen = p.shutterOpen ∧ q.shutterClosed = p.shutterClosed
        ∧ q.feedback = fb ∧ q.defaultSpeed = clamp 1 2000 p.defaultSpeed ∧ q.defaultAccel = clamp 1 500 p.defaultAccel
        ∧ q.channelMap.Pairwise (fun a b => a.offset < b.offset) ∧ q.channelMap.length = p.roles.length
        ∧ ∀ x, x ∈ q.channelMap ↔ ∃ r ∈ p.roles, ∃ (role : Role) (w : Width), r.role = some role
          ∧ (r.width = 8 ∧ w = .w8 ∨ r.width = 16 ∧ w = .w16)
          ∧ x = ⟨role, r.offset, w, if role = .control then clamp 0 (if r.width = 16 then 65535 else 255) r.fixed else 0⟩

/-- R6, R7, R77, R139: the patching of an unpatched head; its line then follows its new slot count. That the reply carries the
kept values clamped mark, clear, is the model's choice (notes/assumptions/30.md). R139: what a slot count that was `before`
brings to a line: become 0, the refresh timer is stopped and refresh due cleared; risen from 0 on an enabled line, refresh due
is set, which is a decision; otherwise nothing. R10: a PATCH HEAD that equals the placement held is accepted and changes
nothing; no value is clamped. -/
def Obligations.PatchHeadSeedsTheHead : Prop :=
  (∀ (t : Nat) (tag : Byte) (h p l b : Nat) (q : Personality) (s : State), s.admits tag = true → s.storeBusy = false →
    h < 512 → p < 32 → l < 16 → 1 ≤ b → b ≤ 512 → s.personality p = some q → b + footprint q.channelMap - 1 ≤ 512 →
    s.placement h = none → s.overlaps h l b (b + footprint q.channelMap - 1) = false →
      ∃ v : State, exec (.patchHead t tag h p l b) s =
          .next (v.answered 0x11#8 tag .ok (.patched (footprint q.channelMap) (v.slotCount l) none false))
        ∧ v.headPatch h = ⟨some ⟨p, l, b⟩, false, false, q.defaultSpeed, q.defaultAccel, q.panRange / 2, q.tiltRange / 2,
            q.panRange / 2, q.tiltRange / 2, ⟨0, 0, 0⟩, none, .both, 300, true⟩
        ∧ v.motion h = some ⟨⟨q.panRange / 2, 0⟩, ⟨q.tiltRange / 2, 0⟩, 0⟩
        ∧ v.watch h = ⟨.active, 0, 0, none, .none, none⟩
        ∧ (∀ k, k ≠ h → v.headPatch k = s.headPatch k ∧ v.motion k = s.motion k ∧ v.watch k = s.watch k)
        ∧ (∀ k, k ≠ l → v.line k = s.line k) ∧ v.patch.personalities = s.patch.personalities ∧ v.patch.groups = s.patch.groups
        ∧ (∃ w : State, (∀ k, w.line k = s.line k) ∧ v = w.slotCountChanged l (s.slotCount l))
        ∧ v.cues = s.cues ∧ v.playback = s.playback ∧ v.merge = s.merge ∧ v.zones = s.zones ∧ v.effects = s.effects
        ∧ v.inputs = s.inputs ∧ v.store = s.store ∧ v.link = s.link)
  ∧ (∀ (s : State) (l before : Nat),
    (s.slotCount l = 0 →
      s.slotCountChanged l before = s.setLine l { s.line l with refreshTimer := none, refreshDue := false })
    ∧ (0 < s.slotCount l → before = 0 → (s.line l).settings.enabled = true →
      s.slotCountChanged l before = (s.setLine l { s.line l with refreshDue := true }).decideTurn l)
    ∧ (0 < s.slotCount l → 0 < before ∨ (s.line l).settings.enabled = false → s.slotCountChanged l before = s))
  ∧ (∀ (t : Nat) (tag : Byte) (h p l b : Nat) (q : Personality) (s : State), s.admits tag = true → s.storeBusy = false →
    h < 512 → p < 32 → l < 16 → 1 ≤ b → b ≤ 512 → s.personality p = some q → b + footprint q.channelMap - 1 ≤ 512 →
    s.placement h = some ⟨p, l, b⟩ →
      exec (.patchHead t tag h p l b) s =
        .next ((s.advance t).answered 0x11#8 tag .ok (.patched (footprint q.channelMap) (s.slotCount l) none false)))

/-- R10, R88, R139, R146: what a re-patch that changes the placement keeps and changes; the head's values leave the last-sent
snapshot of its old line, its queries and its exchange in progress there go when the line or the base slot changes, and the
lines follow their new slot counts (R139), the old one first. `w` is the state before that. -/
def Obligations.RepatchKeepsTheShowPlace : Prop :=
  ∀ (t : Nat) (tag : Byte) (h p l b : Nat) (old : Placement) (q : Personality) (m : Motion) (s : State),
    s.admits tag = true → s.storeBusy = false → h < 512 → p < 32 → l < 16 → 1 ≤ b → b ≤ 512 →
    s.personality p = some q → b + footprint q.channelMap - 1 ≤ 512 → s.placement h = some old → old ≠ ⟨p, l, b⟩ →
    s.rehomeInProgress h = false → s.overlaps h l b (b + footprint q.channelMap - 1) = false → s.motion h = some m →
      ∃ v : State, exec (.patchHead t tag h p l b) s = .next (v.answered 0x11#8 tag .ok (.patched (footprint q.channelMap)
            (v.slotCount l) (if old.line = l then none else some (v.slotCount old.line)) (s.keptClamped h old ⟨p, l, b⟩ q)))
        ∧ v.placement h = some ⟨p, l, b⟩
        ∧ (old.personality = p → v.headPatch h = { s.headPatch h with placement := some ⟨p, l, b⟩ })
        ∧ (old.personality ≠ p → v.headPatch h = { s.headPatch h with
            placement := some ⟨p, l, b⟩, maxSpeed := q.defaultSpeed, maxAccel := q.defaultAccel,
            homePan := min (s.headPatch h).homePan q.panRange, homeTilt := min (s.headPatch h).homeTilt q.tiltRange,
            parkPan := min (s.headPatch h).parkPan q.panRange, parkTilt := min (s.headPatch h).parkTilt q.tiltRange })
        ∧ (∃ m' : Motion, v.motion h = some m' ∧ m'.settle = m.settle ∧ m'.pan.position = min m.pan.position q.panRange
            ∧ m'.tilt.position = min m.tilt.position q.tiltRange
            ∧ (q.panRange < m.pan.position → m'.pan.velocity = 0)
            ∧ (m.pan.position ≤ q.panRange → m'.pan.velocity = cutVelocity (v.headPatch h).maxSpeed m.pan.velocity)
            ∧ (q.tiltRange < m.tilt.position → m'.tilt.velocity = 0)
            ∧ (m.tilt.position ≤ q.tiltRange → m'.tilt.velocity = cutVelocity (v.headPatch h).maxSpeed m.tilt.velocity))
        ∧ v.watch h = { s.watch h with strikes := 0, misses := 0 }
        ∧ ((old.line ≠ l ∨ old.base ≠ b) → ∀ e ∈ (v.line old.line).queue, e.head ≠ h)
        ∧ (∃ (w x : State) (y : Line), w.line old.line = y ∧ (∀ k, k ≠ old.line → w.line k = s.line k)
            ∧ y = { s.line old.line with turn := y.turn, queue := y.queue, wait := y.wait, snapshot := y.snapshot }
            ∧ y.snapshot = (s.line old.line).snapshot.filter (fun e => decide (e.head ≠ h))
            ∧ (old.line = l ∧ old.base = b → y.queue = (s.line old.line).queue ∧ y.wait = (s.line old.line).wait)
            ∧ (old.line ≠ l ∨ old.base ≠ b → y.queue = (s.line old.line).queue.filter (fun e => decide (e.head ≠ h))
              ∧ y.wait = if y.queue = [] then 0 else (s.line old.line).wait)
            ∧ x = w.slotCountChanged old.line (s.slotCount old.line)
            ∧ (old.line = l → v = x) ∧ (old.line ≠ l → v = x.slotCountChanged l (s.slotCount l)))
        ∧ (∀ x, (s.line old.line).turn = .exchange x →
            ((old.line ≠ l ∨ old.base ≠ b) → x.entry.head = h → x.discard = .kept →
              (v.line old.line).turn = .exchange { x with discard := .repatched })
            ∧ ((old.line = l ∧ old.base = b) ∨ x.entry.head ≠ h ∨ x.discard ≠ .kept →
              (v.line old.line).turn = .exchange x))
        ∧ (∀ k, k ≠ h → v.headPatch k = s.headPatch k ∧ v.motion k = s.motion k ∧ v.watch k = s.watch k)
        ∧ v.cues = s.cues ∧ v.playback = s.playback ∧ v.merge = s.merge ∧ v.zones = s.zones ∧ v.effects = s.effects
        ∧ v.inputs = s.inputs ∧ v.store = s.store

/-- R13 to R15, R139, R146: what an accepted UNPATCH HEAD leaves of the head, and what it leaves alone; an exchange of the
head in progress is discarded, its kind kept in mind for the homing count. The homing count falls by one for each HOME entry
removed and for the head's own homing, `n` in all; the line follows its new slot count (R139), and the dispatch is run if the
count fell. `w` is the state before the slot count is followed. -/
def Obligations.UnpatchHeadClearsEveryOwner : Prop :=
  ∀ (t : Nat) (tag : Byte) (h : Nat) (p : Placement) (s : State), s.admits tag = true → s.storeBusy = false → h < 512 →
    s.placement h = some p → s.supervision.rehomeQueue.Nodup →
      ∃ v : State, exec (.unpatchHead t tag h) s = .next (v.answered 0x12#8 tag .ok (.unpatched (s.slotsOf h)
            ((s.line p.line).queue.filter (fun e => e.head == h)).length
            (consoleCount ((s.line p.line).queue.filter (fun e => e.head == h)))))
        ∧ v.headPatch h = HeadPatch.unpatched ∧ v.motion h = none ∧ v.watch h = Watch.unpatched
        ∧ h ∉ v.supervision.rehomeQueue
        ∧ (∀ l < 12, v.layer l = { s.layer l with slots := (s.layer l).slots.filter (fun x => x.head != h) })
        ∧ v.playback.takeStack = s.playback.takeStack
        ∧ (∀ e ∈ (v.line p.line).queue, e.head ≠ h) ∧ (∀ e ∈ (v.line p.line).snapshot, e.head ≠ h)
        ∧ (∀ x, (s.line p.line).turn = .exchange x →
            (x.entry.head = h → x.discard = .kept →
              (v.line p.line).turn = .exchange { x with discard := .unpatched (decide (x.entry.kind = .home)) })
            ∧ (x.entry.head ≠ h ∨ x.discard ≠ .kept → (v.line p.line).turn = .exchange x))
        ∧ (∃ (n : Nat) (w x : State) (y : Line),
            n = ((s.line p.line).queue.filter (fun e => decide (e.head = h ∧ e.kind = .home))).length
              + (if (s.watch h).condition = .homing then 1 else 0)
            ∧ w.supervision.homingCount = s.supervision.homingCount - n
            ∧ w.supervision.rehomeQueue = s.supervision.rehomeQueue.erase h
            ∧ (∀ k, k ≠ h → w.watch k = s.watch k) ∧ (∀ k, k ≠ p.line → w.line k = s.line k) ∧ w.line p.line = y
            ∧ y = { s.line p.line with turn := y.turn, queue := y.queue, wait := y.wait, snapshot := y.snapshot }
            ∧ y.queue = (s.line p.line).queue.filter (fun e => decide (e.head ≠ h))
            ∧ y.wait = (if y.queue = [] then 0 else (s.line p.line).wait)
            ∧ y.snapshot = (s.line p.line).snapshot.filter (fun e => decide (e.head ≠ h))
            ∧ x = w.slotCountChanged p.line (s.slotCount p.line)
            ∧ (n = 0 → v = x) ∧ (n ≠ 0 → v = x.dispatch))
        ∧ (∀ k, k ≠ h → v.headPatch k = s.headPatch k ∧ v.motion k = s.motion k)
        ∧ v.patch.groups = s.patch.groups ∧ v.patch.personalities = s.patch.personalities ∧ v.cues = s.cues
        ∧ v.merge = s.merge ∧ v.zones = s.zones ∧ v.effects = s.effects ∧ v.inputs = s.inputs ∧ v.store = s.store

/-- R11: an accepted SET HEAD replaces its nine fields, home and park clamped into the ranges, and nothing else. R12, R87: an
accepted SET HEAD LIMITS replaces both limits and cuts the velocities to the new speed at once. -/
def Obligations.SetHeadAndLimits : Prop :=
  (∀ (t : Nat) (tag : Byte) (r : HeadReq) (m : HeadMarks) (q : Personality) (s : State), s.admits tag = true →
    s.storeBusy = false → r.marks = some m → r.head < 512 → s.personalityOf r.head = some q →
      exec (.setHead t tag r) s =
        .next (((s.advance t).setHeadPatch r.head { s.headPatch r.head with
            panInvert := m.panInvert, tiltInvert := m.tiltInvert, autoRehome := m.autoRehome,
            homePan := clamp 0 q.panRange r.homePan, homeTilt := clamp 0 q.tiltRange r.homeTilt,
            parkPan := clamp 0 q.panRange r.parkPan, parkTilt := clamp 0 q.tiltRange r.parkTilt,
            altColour := ⟨r.altColour.red.toNat, r.altColour.green.toNat, r.altColour.blue.toNat⟩,
            driftTolerance := r.driftTolerance.toNat }).answered 0x13#8 tag
          (if headClamps r q then .clamped else .ok) .bare))
  ∧ (∀ (t : Nat) (tag : Byte) (h : Nat) (speed accel : Int) (m : Motion) (s : State), s.admits tag = true →
    s.storeBusy = false → h < 512 → s.patched h = true → s.motion h = some m →
      exec (.setHeadLimits t tag h speed accel) s =
        .next ((((s.advance t).setHeadPatch h { s.headPatch h with
            maxSpeed := clamp 1 2000 speed, maxAccel := clamp 1 500 accel }).setMotion h
          (some ⟨⟨m.pan.position, cutVelocity (clamp 1 2000 speed) m.pan.velocity⟩,
            ⟨m.tilt.position, cutVelocity (clamp 1 2000 speed) m.tilt.velocity⟩, m.settle⟩)).answered 0x14#8 tag
          (if clamps 1 2000 speed || clamps 1 500 accel then .clamped else .ok) .bare))

/-! ## Groups and cue memory -/

/-- R16: DEFINE GROUP, its refusals in order, each of its status alone (notes/assumptions/14.md), and its effect. R22: CREATE
LIST, its checks in order, each refusal of its status alone (notes/assumptions/14.md), and its effect. -/
def Obligations.DefineGroupAndCreateList : Prop :=
  (∀ (t : Nat) (tag : Byte) (g : Nat) (marks : BitVec 512) (s : State), s.admits tag = true →
    (s.storeBusy = true →
      exec (.defineGroup t tag g marks) s = .next ((s.advance t).answered 0x15#8 tag .storeBusy .bare))
    ∧ (s.storeBusy = false → 64 ≤ g →
      exec (.defineGroup t tag g marks) s = .next ((s.advance t).answered 0x15#8 tag .badField .bare))
    ∧ (s.storeBusy = false → g < 64 → exec (.defineGroup t tag g marks) s =
      .next (((s.advance t).setGroup g marks).answered 0x15#8 tag .ok
        (.members ((List.range 512).filter marks.getLsbD).length))))
  ∧ (∀ (t : Nat) (tag : Byte) (n : Nat) (s : State), s.admits tag = true →
    (s.storeBusy = true → exec (.createList t tag n) s = .next ((s.advance t).answered 0x20#8 tag .storeBusy .bare))
    ∧ (s.storeBusy = false → 64 ≤ n →
      exec (.createList t tag n) s = .next ((s.advance t).answered 0x20#8 tag .badField .bare))
    ∧ (s.storeBusy = false → n < 64 → s.list n ≠ none →
      exec (.createList t tag n) s = .next ((s.advance t).answered 0x20#8 tag .duplicate .bare))
    ∧ (s.storeBusy = false → n < 64 → s.list n = none → exec (.createList t tag n) s =
      .next (((s.advance t).setList n (some ⟨false, []⟩)).answered 0x20#8 tag .ok .bare)))

/-- R23: an accepted SET LIST LOCK sets the flag and nothing else. R29: an accepted DELETE CUE removes the cue and changes no
layer. R30: an accepted DELETE LIST frees the list and clears the assignments to it. -/
def Obligations.ListEditsTouchOneList : Prop :=
  (∀ (t : Nat) (tag : Byte) (n : Nat) (v : Bool) (cl : CueList) (s : State), s.admits tag = true →
    s.storeBusy = false → n < 64 → s.list n = some cl →
      exec (.setListLock t tag n (some v)) s =
        .next (((s.advance t).setList n (some ⟨v, cl.cues⟩)).answered 0x21#8 tag .ok .bare))
  ∧ (∀ (t : Nat) (tag : Byte) (n : Nat) (number : BitVec 16) (cl : CueList) (s : State), s.admits tag = true →
    s.storeBusy = false → n < 64 → number ≠ 0 → s.list n = some cl → (cl.cue number.toNat).isSome = true →
    cl.locked = false →
      ∃ v : State, exec (.deleteCue t tag n number) s = .next (v.answered 0x24#8 tag .ok
            (.deletedCue (cl.cues.filter (fun c => c.number != number.toNat)).length v.freeCues v.freeEntries))
        ∧ v = (s.advance t).setList n (some ⟨false, cl.cues.filter (fun c => c.number != number.toNat)⟩))
  ∧ (∀ (t : Nat) (tag : Byte) (n : Nat) (cl : CueList) (s : State), s.admits tag = true → s.storeBusy = false → n < 64 →
    s.list n = some cl → cl.locked = false →
    (∀ l < 12, (s.layer l).settings.list = some n → (s.layer l).state = .idle) →
      ∃ v : State, exec (.deleteList t tag n) s = .next (v.answered 0x25#8 tag .ok (.deletedList cl.cues.length
            (entryCount cl.cues) (s.assignedTo n).length v.freeCues v.freeEntries))
        ∧ v.list n = none ∧ (∀ k, k ≠ n → v.list k = s.list k)
        ∧ (∀ l < 12, v.layer l = if (s.layer l).settings.list = some n
            then { s.layer l with settings := { (s.layer l).settings with list := none } } else s.layer l)
        ∧ v.playback.takeStack = s.playback.takeStack ∧ v.patch = s.patch ∧ v.merge = s.merge ∧ v.limiter = s.limiter
        ∧ v.zones = s.zones ∧ v.effects = s.effects ∧ v.inputs = s.inputs ∧ v.lines = s.lines
        ∧ v.supervision = s.supervision ∧ v.store = s.store ∧ v.link = s.link)

/-- R25 to R27: an accepted STORE CUE: the clamped cue stands under its number with its entries ascending by head, every other
cue of the list and every other list as it was. R28: an accepted APPEND ENTRIES adds entries and replaces whole those of the
same heads; the cue's other fields stay. -/
def Obligations.CuesAreStoredInOrder : Prop :=
  (∀ (t : Nat) (tag : Byte) (c : CueReq) (cl : CueList) (s : State), s.admits tag = true → s.storeBusy = false →
    cueFieldsBad c.list c.number c.entries c.strayMark = false → (c.entries.map EntryReq.head).Nodup →
    s.list c.list = some cl → cl.locked = false →
    cl.cues.Pairwise (fun a b => a.number < b.number) →
    (cl.cue c.number.toNat = none → 1 ≤ s.freeCues ∧ c.entries.length ≤ s.freeEntries) →
    (∀ o, cl.cue c.number.toNat = some o → c.entries.length ≤ s.freeEntries + o.entries.length) →
      ∃ (v : State) (cl' : CueList), exec (.storeCue t tag c) s = .next (v.answered 0x22#8 tag (if cueClamps c then .clamped else .ok)
            (.storedCue (cl.cue c.number.toNat).isSome cl'.cues.length v.freeCues v.freeEntries))
        ∧ v = (s.advance t).setList c.list (some cl') ∧ cl'.locked = false
        ∧ cl'.cues.Pairwise (fun a b => a.number < b.number)
        ∧ (∀ n, n ≠ c.number.toNat → cl'.cue n = cl.cue n)
        ∧ ∃ k, cl'.cue c.number.toNat = some k ∧ k.number = c.number.toNat
          ∧ k.fadeMs = clamp 0 600000 c.fadeMs ∧ k.moveMs = clamp 0 600000 c.moveMs
          ∧ k.colourMs = clamp 0 600000 c.colourMs ∧ k.delayMs = clamp 0 600000 c.delayMs
          ∧ k.followMs = c.followMs.map (clamp 0 600000) ∧ k.tcFrame = c.tcFrame.map (clamp 0 2591999)
          ∧ k.entries.Pairwise (fun a b => a.head < b.head)
          ∧ ∀ x, x ∈ k.entries ↔ ∃ e ∈ c.entries, x = storedEntry e)
  ∧ (∀ (t : Nat) (tag : Byte) (n : Nat) (number : BitVec 16) (es : List EntryReq) (cl : CueList) (k : Cue) (s : State),
    s.admits tag = true → s.storeBusy = false → cueFieldsBad n number es false = false → (es.map EntryReq.head).Nodup →
    s.list n = some cl → cl.locked = false → cl.cue number.toNat = some k →
    k.entries.Pairwise (fun a b => a.head < b.head) → k.newHeads es ≤ s.freeEntries →
      ∃ (v : State) (k' : Cue), exec (.appendEntries t tag n number es false) s = .next (v.answered 0x23#8 tag
            (if es.any entryClamps then .clamped else .ok)
            (.appended (k.newHeads es) (es.length - k.newHeads es) k'.entries.length v.freeEntries))
        ∧ v = (s.advance t).setList n (some (cl.putCue k')) ∧ k' = { k with entries := k'.entries }
        ∧ k'.entries.Pairwise (fun a b => a.head < b.head)
        ∧ ∀ x, x ∈ k'.entries ↔ (∃ e ∈ es, x = storedEntry e) ∨ (x ∈ k.entries ∧ ∀ e ∈ es, e.head ≠ x.head))

/-! ## Playback -/

/-- R41 to R44: an accepted GO of the next cue: the layer's state, the take stack and the frame. R41: the cues a layer plays;
its next cue, in a list that ascends by number; and the refusals of a console GO in the order of its checks. That a refusal
carries its status alone is the model's reading (notes/assumptions/14.md). -/
def Obligations.GoTakesTheNextCue : Prop :=
  (∀ (t : Nat) (tag : Byte) (l : Nat) (c : Cue) (s : State), s.admits tag = true → s.loading = false → l < 12 →
    (s.layerCues l).isEmpty = false → (s.layer l).nextCue (s.layerCues l) = some c →
    slotsNeeded (s.layer l).slots (s.cueWants c) ≤ s.freeSlots →
      ∃ v : State, exec (.go t tag l) s = .next (v.answered 0x30#8 tag .ok (.took c.number
            (slotsNeeded (s.layer l).slots (s.cueWants c))
            ((s.cueWants c).length - slotsNeeded (s.layer l).slots (s.cueWants c)) (s.skipped c) v.freeSlots))
        ∧ v.layer l = { s.layer l with
            state := .running, pausedFrom := none, chaseCount := 0, currentCue := some c.number, followMs := c.followMs,
            refusedTarget := none, slots := s.takenSlots (s.layer l).slots c (s.cueWants c) (s.layer l).slots }
        ∧ (∀ k, k ≠ l → v.layer k = s.layer k) ∧ v.playback.takeStack = s.playback.takeStack.erase l ++ [l]
        ∧ v.cues = s.cues ∧ v.patch = s.patch ∧ v.merge = s.merge ∧ v.limiter = s.limiter ∧ v.zones = s.zones
        ∧ v.effects = s.effects ∧ v.inputs = s.inputs ∧ v.lines = s.lines ∧ v.supervision = s.supervision
        ∧ v.store = s.store ∧ v.link = s.link)
  ∧ ((∀ (s : State) (l : Nat), ((s.layer l).settings.list = none → s.layerCues l = [])
    ∧ ∀ n, (s.layer l).settings.list = some n → (s.list n = none → s.layerCues l = [])
      ∧ ∀ cl, s.list n = some cl → s.layerCues l = cl.cues)
  ∧ (∀ (y : Layer) (cs : List Cue), cs.Pairwise (fun a b => a.number < b.number) →
    (y.currentCue = none → ∀ c rest, cs = c :: rest → y.nextCue cs = some c)
    ∧ ∀ n, y.currentCue = some n →
      (∀ c ∈ cs, n < c.number → (∀ d ∈ cs, n < d.number → c.number ≤ d.number) → y.nextCue cs = some c)
      ∧ ((∀ d ∈ cs, d.number ≤ n) → y.settings.mode = .chase → ∀ c rest, cs = c :: rest → y.nextCue cs = some c)
      ∧ ((∀ d ∈ cs, d.number ≤ n) → y.settings.mode ≠ .chase → y.nextCue cs = none))
  ∧ ∀ (t : Nat) (tag : Byte) (l : Nat) (s : State), s.admits tag = true →
    (s.loading = true → exec (.go t tag l) s = .next ((s.advance t).answered 0x30#8 tag .storeBusy .bare))
    ∧ (s.loading = false → 12 ≤ l → exec (.go t tag l) s = .next ((s.advance t).answered 0x30#8 tag .badField .bare))
    ∧ (s.loading = false → l < 12 → s.layerCues l = [] →
      exec (.go t tag l) s = .next ((s.advance t).answered 0x30#8 tag .noList .bare))
    ∧ (s.loading = false → l < 12 → s.layerCues l ≠ [] → (s.layer l).nextCue (s.layerCues l) = none →
      exec (.go t tag l) s = .next ((s.advance t).answered 0x30#8 tag .endOfList .bare))
    ∧ (∀ c, s.loading = false → l < 12 → (s.layer l).nextCue (s.layerCues l) = some c →
      s.freeSlots < slotsNeeded (s.layer l).slots (s.cueWants c) →
      exec (.go t tag l) s = .next ((s.advance t).answered 0x30#8 tag .slotPoolFull .bare)))

/-- R43: the slots after a take: a value named is re-based from the slot's current value or from the merged target, and every
other slot is kept. The two clauses exclude each other. -/
def Obligations.TakenSlotsStartFromThePicture : Prop :=
  ∀ (s : State) (slots : List Slot) (c : Cue), ((s.cueWants c).map Want.key).Nodup →
    (∀ w ∈ s.cueWants c, slotFor (s.takenSlots slots c (s.cueWants c) slots) w.head w.attr =
      some ⟨w.head, w.attr,
        (match slotFor slots w.head w.attr with
          | some x => x.value
          | none => s.mergedTarget w.head w.attr),
        w.value, c.delayMs, c.fade w.attr, 0, .none⟩)
    ∧ ∀ h a, (∀ w ∈ s.cueWants c, ¬ (w.head = h ∧ w.attr = a)) →
      slotFor (s.takenSlots slots c (s.cueWants c) slots) h a = slotFor slots h a

/-- R46, R47: an accepted GOTO of a cue of the list: the tracked target of the cues through it is taken, every other slot
becomes a release slot. That the reply counts as re-based the slots held for pairs of the target alone, and as skipped the
entries of all the cues applied, is the model's choice (notes/assumptions/25.md). R20, R42, R46, R47: the values a cue gives
patched heads; the tracked target, each pair with the last value written; and the slots after a GOTO: a pair of the target is
faded from its current value, any other slot fades out or holds as a release slot. -/
def Obligations.GotoTakesTheTrackedTarget : Prop :=
  (∀ (t : Nat) (tag : Byte) (l : Nat) (n : BitVec 16) (c : Cue) (s : State), s.admits tag = true → s.loading = false →
    l < 12 → n ≠ 0 → (s.layerCues l).find? (fun c => c.number == n.toNat) = some c →
    slotsNeeded (s.layer l).slots (s.tracked ((s.layerCues l).filter (fun d => decide (d.number ≤ c.number)))) ≤ s.freeSlots →
      ∃ v : State, exec (.goto t tag l n) s = .next (v.answered 0x31#8 tag .ok (.wentTo c.number
            (slotsNeeded (s.layer l).slots (s.tracked ((s.layerCues l).filter (fun d => decide (d.number ≤ c.number)))))
            ((s.tracked ((s.layerCues l).filter (fun d => decide (d.number ≤ c.number)))).length
              - slotsNeeded (s.layer l).slots (s.tracked ((s.layerCues l).filter (fun d => decide (d.number ≤ c.number)))))
            (((s.layer l).slots.filter (fun x =>
              !x.named (s.tracked ((s.layerCues l).filter (fun d => decide (d.number ≤ c.number)))))).length)
            (total (((s.layerCues l).filter (fun d => decide (d.number ≤ c.number))).map s.skipped)) v.freeSlots))
        ∧ v.layer l = { s.layer l with
            state := .running, pausedFrom := none, chaseCount := 0, currentCue := some c.number, followMs := c.followMs,
            refusedTarget := none,
            slots := s.gotoSlots (s.layer l).slots c
              (s.tracked ((s.layerCues l).filter (fun d => decide (d.number ≤ c.number)))) }
        ∧ (∀ k, k ≠ l → v.layer k = s.layer k) ∧ v.playback.takeStack = s.playback.takeStack.erase l ++ [l]
        ∧ v.cues = s.cues ∧ v.patch = s.patch ∧ v.merge = s.merge ∧ v.limiter = s.limiter ∧ v.zones = s.zones
        ∧ v.effects = s.effects ∧ v.inputs = s.inputs ∧ v.lines = s.lines ∧ v.supervision = s.supervision
        ∧ v.store = s.store ∧ v.link = s.link)
  ∧ ((∀ (s : State) (c : Cue) (w : Want), w ∈ s.cueWants c ↔ ∃ e ∈ c.entries, s.patched e.head = true ∧ w.head = e.head
      ∧ ((∃ n, e.pan = some n ∧ w.attr = .pan ∧ w.value = .scalar n)
        ∨ (∃ n, e.tilt = some n ∧ w.attr = .tilt ∧ w.value = .scalar n)
        ∨ (∃ n, e.intensity = some n ∧ w.attr = .intensity ∧ w.value = .scalar n)
        ∨ (∃ k, e.colour = some k ∧ w.attr = .colour ∧ w.value = .triple k)))
  ∧ (∀ (s : State) (cs : List Cue), ((s.tracked cs).map Want.key).Nodup
      ∧ ∀ w, w ∈ s.tracked cs ↔ ∃ before later, cs.flatMap s.cueWants = before ++ w :: later
          ∧ ∀ x ∈ later, ¬ (x.head = w.head ∧ x.attr = w.attr))
  ∧ ∀ (s : State) (slots : List Slot) (c : Cue) (ws : List Want), (ws.map Want.key).Nodup →
      (∀ w ∈ ws, slotFor (s.gotoSlots slots c ws) w.head w.attr =
        some ⟨w.head, w.attr,
          (match slotFor slots w.head w.attr with
            | some x => x.value
            | none => s.mergedTarget w.head w.attr),
          w.value, c.delayMs,
          (match w.attr with
            | .pan => c.moveMs
            | .tilt => c.moveMs
            | .intensity => c.fadeMs
            | .colour => c.colourMs), 0, .none⟩)
      ∧ ∀ h a, (∀ w ∈ ws, ¬ (w.head = h ∧ w.attr = a)) →
        slotFor (s.gotoSlots slots c ws) h a = (slotFor slots h a).map (fun x =>
          if a = .intensity then ⟨h, a, x.value, .scalar 0, c.delayMs, c.fadeMs, 0, .fadeOut⟩
          else ⟨h, a, x.value, x.value, 0, 0, 0, .hold⟩))

/-- R50: PAUSE and RESUME, accepted and refused; a BAD_FIELD reply is its status alone (notes/assumptions/14.md). R51:
RELEASE, accepted and refused; a refusal is its status alone (notes/assumptions/14.md). R53: KILL, accepted in every state;
the settings are kept. Its BAD_FIELD reply is its status alone (notes/assumptions/14.md). -/
def Obligations.PauseResumeReleaseAndKill : Prop :=
  (∀ (t : Nat) (tag : Byte) (l : Nat) (s : State), s.admits tag = true →
    (12 ≤ l → exec (.pause t tag l) s = .next ((s.advance t).answered 0x32#8 tag .badField .bare)
      ∧ exec (.resume t tag l) s = .next ((s.advance t).answered 0x33#8 tag .badField .bare))
    ∧ (l < 12 → (s.layer l).state = .running → exec (.pause t tag l) s = .next (((s.advance t).setLayer l
      { s.layer l with state := .paused, pausedFrom := some .running }).answered 0x32#8 tag .ok (.layerState .paused)))
    ∧ (l < 12 → (s.layer l).state = .releasing → exec (.pause t tag l) s = .next (((s.advance t).setLayer l
      { s.layer l with state := .paused, pausedFrom := some .releasing }).answered 0x32#8 tag .ok (.layerState .paused)))
    ∧ (l < 12 → (s.layer l).state ≠ .running → (s.layer l).state ≠ .releasing → exec (.pause t tag l) s =
      .next ((s.advance t).answered 0x32#8 tag .wrongState (.layerState (s.layer l).state)))
    ∧ (l < 12 → (s.layer l).state = .paused → (s.layer l).pausedFrom = some .running → exec (.resume t tag l) s =
      .next (((s.advance t).setLayer l { s.layer l with state := .running, pausedFrom := none }).answered 0x33#8 tag .ok
        (.layerState .running)))
    ∧ (l < 12 → (s.layer l).state = .paused → (s.layer l).pausedFrom = some .releasing → exec (.resume t tag l) s =
      .next (((s.advance t).setLayer l { s.layer l with state := .releasing, pausedFrom := none }).answered 0x33#8 tag .ok
        (.layerState .releasing)))
    ∧ (l < 12 → (s.layer l).state ≠ .paused → exec (.resume t tag l) s =
      .next ((s.advance t).answered 0x33#8 tag .wrongState (.layerState (s.layer l).state))))
  ∧ (∀ (t : Nat) (tag : Byte) (l : Nat) (s : State), s.admits tag = true →
    (12 ≤ l → exec (.release t tag l) s = .next ((s.advance t).answered 0x34#8 tag .badField .bare))
    ∧ (l < 12 → (s.layer l).state = .idle →
      exec (.release t tag l) s = .next ((s.advance t).answered 0x34#8 tag .wrongState .bare))
    ∧ (l < 12 → (s.layer l).state ≠ .idle → exec (.release t tag l) s =
      .next (((s.advance t).setLayer l { s.layer l with
          state := .releasing, pausedFrom := none, followMs := none,
          slots := (s.layer l).slots.map (fun x =>
            if x.attr = .intensity
            then ⟨x.head, x.attr, x.value, .scalar 0, 0, (s.layer l).settings.releaseMs, 0, .none⟩
            else ⟨x.head, x.attr, x.value, x.value, 0, 0, 0, .none⟩) }).answered 0x34#8 tag .ok
        (.rebased ((s.layer l).slots.filter (fun x => decide (x.attr = .intensity))).length))))
  ∧ (∀ (t : Nat) (tag : Byte) (l : Nat) (s : State), s.admits tag = true →
    (12 ≤ l → exec (.kill t tag l) s = .next ((s.advance t).answered 0x35#8 tag .badField .bare))
    ∧ (l < 12 → ∃ v : State, exec (.kill t tag l) s = .next (v.answered 0x35#8 tag .ok (.removed (s.layer l).slots.length))
      ∧ v.layer l = ⟨(s.layer l).settings, .idle, none, 0, none, none, none, []⟩
      ∧ (∀ k, k ≠ l → v.layer k = s.layer k) ∧ v.playback.takeStack = s.playback.takeStack.erase l
      ∧ v.playback.stepTimer = s.playback.stepTimer ∧ v.cues = s.cues ∧ v.patch = s.patch ∧ v.merge = s.merge
      ∧ v.limiter = s.limiter ∧ v.zones = s.zones ∧ v.effects = s.effects ∧ v.inputs = s.inputs ∧ v.lines = s.lines
      ∧ v.supervision = s.supervision ∧ v.store = s.store ∧ v.link = s.link))

/-- R54: the five settings requests replace one setting each, clamped. R55: SET LAYER MODE and ASSIGN LIST of an IDLE layer,
and their refusal of any other, its status alone (notes/assumptions/14.md). -/
def Obligations.LayerSettingsReplaceOneSetting : Prop :=
  (∀ (t : Nat) (tag : Byte) (l : Nat) (master : Level) (v : Int) (m : IntensityMode) (s : State),
    s.admits tag = true → s.loading = false → l < 12 →
      exec (.setMaster t tag l master) s = .next (((s.advance t).setLayer l
        { s.layer l with settings := { (s.layer l).settings with master := master.toNat } }).answered 0x36#8 tag .ok .bare)
      ∧ exec (.setPrecedence t tag l v) s = .next (((s.advance t).setLayer l
        { s.layer l with settings := { (s.layer l).settings with precedence := clamp 1 15 v } }).answered 0x37#8 tag
          (if v < 1 ∨ 15 < v then .clamped else .ok) .bare)
      ∧ exec (.setIntensityMode t tag l (some m)) s = .next (((s.advance t).setLayer l
        { s.layer l with settings := { (s.layer l).settings with intensityMode := m } }).answered 0x38#8 tag .ok .bare)
      ∧ exec (.setReleaseTime t tag l v) s = .next (((s.advance t).setLayer l
        { s.layer l with settings := { (s.layer l).settings with releaseMs := clamp 0 600000 v } }).answered 0x39#8 tag
          (if v < 0 ∨ 600000 < v then .clamped else .ok) .bare)
      ∧ exec (.setChaseBeats t tag l v) s = .next (((s.advance t).setLayer l
        { s.layer l with settings := { (s.layer l).settings with chaseBeats := clamp 1 64 v } }).answered 0x3A#8 tag
          (if v < 1 ∨ 64 < v then .clamped else .ok) .bare))
  ∧ (∀ (t : Nat) (tag : Byte) (l : Nat) (m : LayerMode) (list : Option Nat) (s : State),
    s.admits tag = true → s.loading = false → l < 12 → (∀ n, list = some n → n < 64) →
      ((s.layer l).state ≠ .idle →
        exec (.setLayerMode t tag l (some m)) s = .next ((s.advance t).answered 0x3B#8 tag .wrongState .bare)
        ∧ exec (.assignList t tag l list) s = .next ((s.advance t).answered 0x3C#8 tag .wrongState .bare))
      ∧ ((s.layer l).state = .idle → exec (.setLayerMode t tag l (some m)) s = .next (((s.advance t).setLayer l
          { s.layer l with settings := { (s.layer l).settings with mode := m }, chaseCount := 0 }).answered 0x3B#8 tag .ok
            .bare))
      ∧ ((s.layer l).state = .idle → (∀ n, list = some n → s.list n ≠ none) →
        exec (.assignList t tag l list) s = .next (((s.advance t).setLayer l
          { s.layer l with settings := { (s.layer l).settings with list := list } }).answered 0x3C#8 tag .ok .bare)))

/-- R39, R52: the layer step. In HOLD it does nothing but run on; otherwise each layer whose countdown does not run out is
stepped as its state says, and no take is made. `xs` are the slots advanced, each cut to delay plus fade; a RUNNING layer
drops its finished FADE_OUT slots, settles when every slot is complete, its HOLD slots then dropped, and counts its follow
down; a RELEASING one advances and no more until its INTENSITY slots are complete. R39, R45, R52, R56: outside HOLD a layer
step takes the layers one after another, ascending, each whole with the take it makes. The step of one layer: IDLE or PAUSED,
it is passed over; RELEASING, it advances, or is finished and leaves the take stack; RUNNING or SETTLED, `y` is the layer
advanced and settled, and its follow countdown then counts down by 4. One that comes to 0 or below becomes absent and makes a
GO with source FOLLOW, told by CUE_TAKEN or TAKE_FAILED; the cue that TAKE_FAILED names is log 19's reading. -/
def Obligations.LayerStepAdvancesFades : Prop :=
  (∀ (t : Nat) (s : State),
    (s.merge.mode = .hold → exec (.layerStep t) s = .next ({ s.advance t with
      playback := { s.playback with stepTimer := (s.advance t).now + 4000 } }).startTransmit)
    ∧ (s.merge.mode ≠ .hold → (∀ l < 12, ∀ f, (s.layer l).followMs = some f → 4 < f) →
      ∃ v : State, exec (.layerStep t) s = .next v.startTransmit ∧ v.link = s.link ∧ v.cues = s.cues ∧ v.patch = s.patch
        ∧ v.merge = s.merge ∧ v.limiter = s.limiter ∧ v.inputs = s.inputs ∧ v.lines = s.lines
        ∧ v.supervision = s.supervision ∧ v.zones = s.zones ∧ v.effects = s.effects ∧ v.store = s.store
        ∧ (∀ l < 12, (s.layer l).state = .idle ∨ (s.layer l).state = .paused → v.layer l = s.layer l)
        ∧ (∀ l < 12, (s.layer l).state = .settled →
          v.layer l = { s.layer l with followMs := (s.layer l).followMs.map (· - 4) })
        ∧ (∀ l < 12, (s.layer l).state = .running → ∀ x ∈ (s.layer l).slots, x.elapsedMs + 4 < x.delayMs + x.fadeMs →
          (v.layer l).state = .running ∧ { x with elapsedMs := x.elapsedMs + 4 } ∈ (v.layer l).slots)
        ∧ (∀ l < 12, (s.layer l).state = .running → (∀ x ∈ (s.layer l).slots, x.elapsedMs ≤ x.delayMs + x.fadeMs ∧
            x.delayMs + x.fadeMs ≤ x.elapsedMs + 4) →
          (v.layer l).state = .settled ∧ ∀ y ∈ (v.layer l).slots, y.mark = .none)
        ∧ (∀ l < 12, ∃ xs : List Slot,
          xs = (s.layer l).slots.map (fun x => { x with elapsedMs := min (x.elapsedMs + 4) (x.delayMs + x.fadeMs) })
          ∧ ((s.layer l).state = .running → (∃ x ∈ xs, x.elapsedMs ≠ x.delayMs + x.fadeMs) →
            v.layer l = { s.layer l with
              slots := xs.filter (fun x => decide (x.elapsedMs ≠ x.delayMs + x.fadeMs) || decide (x.mark ≠ .fadeOut))
              followMs := (s.layer l).followMs.map (· - 4) })
          ∧ ((s.layer l).state = .running → (∀ x ∈ xs, x.elapsedMs = x.delayMs + x.fadeMs) →
            v.layer l = { s.layer l with
              state := .settled
              slots := xs.filter (fun x => decide (x.mark = .none))
              followMs := (s.layer l).followMs.map (· - 4) })
          ∧ ((s.layer l).state = .releasing →
            (∃ x ∈ xs, x.attr = .intensity ∧ x.elapsedMs ≠ x.delayMs + x.fadeMs) →
            v.layer l = { s.layer l with slots := xs }))
        ∧ (∀ l < 12, (s.layer l).state = .releasing → (∀ x ∈ (s.layer l).slots, x.attr = .intensity →
            x.elapsedMs ≤ x.delayMs + x.fadeMs ∧ x.delayMs + x.fadeMs ≤ x.elapsedMs + 4) →
          v.layer l = ⟨(s.layer l).settings, .idle, none, 0, none, none, none, []⟩)))
  ∧ ((∀ (t : Nat) (s : State), s.merge.mode ≠ .hold → exec (.layerStep t) s = .next ((List.range 12).foldl State.stepLayer
      { s.advance t with playback := { s.playback with stepTimer := (s.advance t).now + 4000 } }).startTransmit)
  ∧ ∀ (s : State) (l : Nat), ∃ (xs : List Slot) (y : Layer),
    xs = (s.layer l).slots.map (fun x => { x with elapsedMs := min (x.elapsedMs + 4) (x.delayMs + x.fadeMs) })
    ∧ ((s.layer l).state = .idle ∨ (s.layer l).state = .paused → s.stepLayer l = s.setLayer l (s.layer l))
    ∧ ((s.layer l).state = .releasing → (∃ x ∈ xs, x.attr = .intensity ∧ x.elapsedMs ≠ x.delayMs + x.fadeMs) →
      s.stepLayer l = s.setLayer l { s.layer l with slots := xs })
    ∧ ((s.layer l).state = .releasing → (∀ x ∈ xs, x.attr = .intensity → x.elapsedMs = x.delayMs + x.fadeMs) →
      ∃ u : State, u = s.setLayer l ⟨(s.layer l).settings, .idle, none, 0, none, none, none, []⟩
        ∧ s.stepLayer l = { u with playback := { u.playback with takeStack := s.playback.takeStack.erase l } })
    ∧ ((s.layer l).state = .settled → y = s.layer l)
    ∧ ((s.layer l).state = .running → (∃ x ∈ xs, x.elapsedMs ≠ x.delayMs + x.fadeMs) → y = { s.layer l with
      slots := xs.filter (fun x => decide (x.elapsedMs ≠ x.delayMs + x.fadeMs) || decide (x.mark ≠ .fadeOut)) })
    ∧ ((s.layer l).state = .running → (∀ x ∈ xs, x.elapsedMs = x.delayMs + x.fadeMs) → y = { s.layer l with
      state := .settled, slots := xs.filter (fun x => decide (x.mark = .none)) })
    ∧ ((s.layer l).state = .running ∨ (s.layer l).state = .settled →
      ((s.layer l).followMs = none → s.stepLayer l = s.setLayer l y)
      ∧ ∀ f, (s.layer l).followMs = some f →
        (4 < f → s.stepLayer l = s.setLayer l { y with followMs := some (f - 4) })
        ∧ (f ≤ 4 → ∃ (u : State) (r : TakeResult), u = s.setLayer l { y with followMs := none } ∧ r = u.goTake l
          ∧ (∀ v i, r = .taken v i → s.stepLayer l = v.notify (.cueTaken l i.cue .follow .go))
          ∧ (∀ st cue, r = .refused st cue → s.stepLayer l = u.notify (.takeFailed l .follow none st cue)))))

/-- R45, R48, R56: a follow countdown or a beat count that runs out makes a GO, reported CUE_TAKEN or TAKE_FAILED; one that
does not run out is left. That the row is an event of its own, beside the layer step and the beat that count, is log 2; the
cue that TAKE_FAILED names is log 19's reading. -/
def Obligations.ExpiriesTakeTheNextCue : Prop :=
  ∀ (t : Nat) (l : Fin 12) (s : State), s.merge.mode ≠ .hold →
    ((s.layer l).state = .running ∨ (s.layer l).state = .settled) →
      (∀ f, (s.layer l).followMs = some f →
        (4 < f → exec (.followExpiry t l) s = .next (s.advance t).startTransmit)
        ∧ (f ≤ 4 → ∃ r, r = ((s.advance t).setLayer l { s.layer l with followMs := none }).goTake l ∧
          (∀ v i, r = .taken v i →
            exec (.followExpiry t l) s = .next (v.notify (.cueTaken l i.cue .follow .go)).startTransmit)
          ∧ (∀ st cue, r = .refused st cue → exec (.followExpiry t l) s =
            .next ((((s.advance t).setLayer l { s.layer l with followMs := none }).notify
              (.takeFailed l .follow none st cue)).startTransmit))))
      ∧ ((s.layer l).settings.mode = .chase →
        ((s.layer l).chaseCount + 1 < (s.layer l).settings.chaseBeats →
          exec (.chaseCountExpiry t l) s = .next (s.advance t).startTransmit)
        ∧ ((s.layer l).settings.chaseBeats ≤ (s.layer l).chaseCount + 1 →
          ∃ r, r = ((s.advance t).setLayer l { s.layer l with chaseCount := 0 }).goTake l ∧
          (∀ v i, r = .taken v i →
            exec (.chaseCountExpiry t l) s = .next (v.notify (.cueTaken l i.cue .chase .go)).startTransmit)
          ∧ (∀ st cue, r = .refused st cue → exec (.chaseCountExpiry t l) s =
            .next ((((s.advance t).setLayer l { s.layer l with chaseCount := 0 }).notify
              (.takeFailed l .chase none st cue)).startTransmit))))

/-- R38: the value of a fade slot: its from value before the delay, its to value after the fade, and between them from plus
the truncated part of the difference, for each component of a COLOUR; it always lies between its ends. -/
def Obligations.FadeValueStaysBetweenItsEnds : Prop :=
  ∀ x : Slot,
    (x.elapsedMs < x.delayMs → x.value = x.fromVal)
    ∧ (x.delayMs ≤ x.elapsedMs → x.fadeMs = 0 ∨ x.fadeMs ≤ x.elapsedMs - x.delayMs → x.value = x.toVal)
    ∧ (∀ a b : Nat, x.fromVal = .scalar a → x.toVal = .scalar b → ∃ n : Nat, x.value = .scalar n
      ∧ min a b ≤ n ∧ n ≤ max a b
      ∧ (x.delayMs ≤ x.elapsedMs → x.fadeMs ≠ 0 → x.elapsedMs - x.delayMs < x.fadeMs →
        (n : Int) = a + Int.tdiv (((b : Int) - a) * (x.elapsedMs - x.delayMs : Nat)) x.fadeMs))
    ∧ (∀ a b : Colour, x.fromVal = .triple a → x.toVal = .triple b → ∃ c : Colour, x.value = .triple c
      ∧ (min a.red b.red ≤ c.red ∧ c.red ≤ max a.red b.red) ∧ (min a.green b.green ≤ c.green ∧ c.green ≤ max a.green b.green)
      ∧ (min a.blue b.blue ≤ c.blue ∧ c.blue ≤ max a.blue b.blue)
      ∧ (x.delayMs ≤ x.elapsedMs → x.fadeMs ≠ 0 → x.elapsedMs - x.delayMs < x.fadeMs →
        (c.red : Int) = a.red + Int.tdiv (((b.red : Int) - a.red) * (x.elapsedMs - x.delayMs : Nat)) x.fadeMs
        ∧ (c.green : Int) = a.green + Int.tdiv (((b.green : Int) - a.green) * (x.elapsedMs - x.delayMs : Nat)) x.fadeMs
        ∧ (c.blue : Int) = a.blue + Int.tdiv (((b.blue : Int) - a.blue) * (x.elapsedMs - x.delayMs : Nat)) x.fadeMs))

/-! ## Merge and douse -/

/-- R64: SET MASK, accepted in every state. R65: HOLD, PARK and RUN set the mode they name from every mode. R70, R71, R73: the
douse line and CLEAR DOUSE. -/
def Obligations.MergeRequestsSetMaskModeAndLatch : Prop :=
  (∀ (t : Nat) (tag : Byte) (v : Int) (s : State), s.admits tag = true →
    exec (.setMask t tag v) s = .next (({ s.advance t with merge := { s.merge with mask := clamp 0 15 v } }).answered
      0x40#8 tag (if v < 0 ∨ 15 < v then .clamped else .ok) (.mask s.merge.mask (clamp 0 15 v))))
  ∧ (∀ (t : Nat) (tag : Byte) (s : State), s.admits tag = true →
    exec (.hold t tag) s = .next (({ s.advance t with merge := { s.merge with mode := .hold } }).answered 0x41#8 tag .ok
      (.modeBefore s.merge.mode))
    ∧ exec (.park t tag) s = .next (({ s.advance t with merge := { s.merge with mode := .park } }).answered 0x42#8 tag .ok
      (.modeBefore s.merge.mode))
    ∧ exec (.run t tag) s = .next (({ s.advance t with merge := { s.merge with mode := .run } }).answered 0x43#8 tag .ok
      (.modeBefore s.merge.mode)))
  ∧ (∀ (t : Nat) (tag : Byte) (s : State),
    (s.merge.douseLatch = false → exec (.douseAssert t) s =
      .next (({ s.advance t with merge := { s.merge with douseLatch := true, douseLine := true } }).notify
        (.douse true true .line)).startTransmit)
    ∧ (s.merge.douseLatch = true → exec (.douseAssert t) s =
      .next ({ s.advance t with merge := { s.merge with douseLine := true } }).startTransmit)
    ∧ exec (.douseDeassert t) s = .next ({ s.advance t with merge := { s.merge with douseLine := false } }).startTransmit
    ∧ (s.admits tag = true → s.merge.douseLine = true → exec (.clearDouse t tag) s =
      .next ((s.advance t).answered 0x44#8 tag .wrongState (.douse true s.merge.douseLatch)))
    ∧ (s.admits tag = true → s.merge.douseLine = false → s.merge.douseLatch = true → exec (.clearDouse t tag) s =
      .next ((({ s.advance t with merge := { s.merge with douseLatch := false } }).notify
        (.douse false false .clear)).answered 0x44#8 tag .ok (.douse false false)))
    ∧ (s.admits tag = true → s.merge.douseLine = false → s.merge.douseLatch = false → exec (.clearDouse t tag) s =
      .next ((s.advance t).answered 0x44#8 tag .ok (.douse false false))))

/-- R61: the merged intensity of the candidates: the larger of the HIGHEST part and the LATEST part, each slot value scaled by
its layer's master. -/
def Obligations.MergedIntensityIsTheLargerPart : Prop :=
  ∀ (s : State) (h : Nat), ∃ cands : List Contribution, cands = candidates (s.contributing h .intensity) ∧
    ∃ n, s.mergedTarget h .intensity = .scalar n
      ∧ (cands = [] → n = 0)
      ∧ (∀ c ∈ cands, c.intensityMode = .highest → (c.value.num * c.master + 32767) / 65535 ≤ n)
      ∧ (∀ c, (cands.filter (fun c => c.intensityMode == .latest)).getLast? = some c →
          (c.value.num * c.master + 32767) / 65535 ≤ n)
      ∧ (n = 0 ∨ (∃ c ∈ cands, c.intensityMode = .highest ∧ n = (c.value.num * c.master + 32767) / 65535)
          ∨ ∃ c, (cands.filter (fun c => c.intensityMode == .latest)).getLast? = some c
            ∧ n = (c.value.num * c.master + 32767) / 65535)

/-- R58 to R60: the contributing layers of an attribute of a head, bottom of the take stack first; the candidates, those of
the highest precedence; and the merged PAN, TILT and COLOUR, the value of the candidate latest in the stack or the head's
default. -/
def Obligations.MergedAnglesAndColourFollowTheLatest : Prop :=
  ∀ (s : State) (h : Nat) (a : Attr),
    (∀ c, c ∈ s.contributing h a ↔ c.layer ∈ s.playback.takeStack ∧ (s.layer c.layer).state ≠ .idle
      ∧ s.merge.mask < (s.layer c.layer).settings.precedence ∧ ∃ x, slotFor (s.layer c.layer).slots h a = some x
      ∧ c = ⟨c.layer, (s.layer c.layer).settings.precedence, x.value, (s.layer c.layer).settings.master,
        (s.layer c.layer).settings.intensityMode⟩)
    ∧ ((s.contributing h a).map Contribution.layer).Sublist s.playback.takeStack
    ∧ (∀ c, c ∈ candidates (s.contributing h a) ↔
      c ∈ s.contributing h a ∧ ∀ d ∈ s.contributing h a, d.precedence ≤ c.precedence)
    ∧ (candidates (s.contributing h a)).Sublist (s.contributing h a)
    ∧ (∀ c, a ≠ .intensity → (candidates (s.contributing h a)).getLast? = some c → s.mergedTarget h a = c.value)
    ∧ (s.contributing h .pan = [] → s.mergedTarget h .pan = .scalar (s.headPatch h).homePan)
    ∧ (s.contributing h .tilt = [] → s.mergedTarget h .tilt = .scalar (s.headPatch h).homeTilt)
    ∧ (s.contributing h .colour = [] → s.mergedTarget h .colour = .triple ⟨65535, 65535, 65535⟩)

/-! ## Motion limiter, zones, encoder -/

/-- R78 to R84, R86: the limiter step moves each patched head by its own axes, a velocity by at most the acceleration unless
it becomes 0, starts the step timer again and changes nothing else. -/
def Obligations.LimiterStepMovesPatchedHeads : Prop :=
  ∀ (t : Nat) (s : State), ∃ v : State, exec (.limiterStep t) s = .next v.startTransmit
    ∧ v = { s.advance t with limiter := v.limiter } ∧ v.limiter.stepTimer = (s.advance t).now + 4000
    ∧ (∀ h, s.patched h = false → v.motion h = s.motion h)
    ∧ ∀ h q m, s.personalityOf h = some q → s.motion h = some m → ∃ m' : Motion, v.motion h = some m'
      ∧ m'.pan = stepAxis (s.headPatch h).maxSpeed (s.headPatch h).maxAccel q.panRange
          (min (if s.merge.mode = .park then (s.headPatch h).parkPan else (s.mergedTarget h .pan).num) q.panRange) m.pan
      ∧ m'.tilt = stepAxis (s.headPatch h).maxSpeed (s.headPatch h).maxAccel q.tiltRange
          (min (if s.merge.mode = .park then (s.headPatch h).parkTilt else (s.mergedTarget h .tilt).num) q.tiltRange) m.tilt
      ∧ m'.settle = (if m'.pan.velocity = 0 ∧ m'.tilt.velocity = 0 then min (m.settle + 4) 500 else 0)
      ∧ (m'.pan.velocity = 0 ∨ (m'.pan.velocity - m.pan.velocity).natAbs ≤ (s.headPatch h).maxAccel)
      ∧ (m'.tilt.velocity = 0 ∨ (m'.tilt.velocity - m.tilt.velocity).natAbs ≤ (s.headPatch h).maxAccel)

/-- R80 to R83: one axis in one step, with d the distance to the target and b the integer square root of 2 × A × |d|. -/
def Obligations.AxisStepFollowsTheFourRules : Prop :=
  ∀ (S A r T : Nat) (x : Axis), T ≤ r →
    ((T : Int) - x.position = 0 → x.velocity = 0 → stepAxis S A r T x = x)
    ∧ ((T : Int) - x.position ≠ 0 ∨ x.velocity ≠ 0 → ∃ b w v p : Int,
      0 ≤ b ∧ b * b ≤ 2 * A * ((T : Int) - x.position).natAbs ∧ 2 * A * ((T : Int) - x.position).natAbs < (b + 1) * (b + 1)
      ∧ (0 < (T : Int) - x.position → w = min (S : Int) b) ∧ ((T : Int) - x.position < 0 → w = -(min (S : Int) b))
      ∧ ((T : Int) - x.position = 0 → w = 0)
      ∧ (-(A : Int) ≤ w - x.velocity → w - x.velocity ≤ A → v = w)
      ∧ ((A : Int) < w - x.velocity → v = x.velocity + A) ∧ (w - x.velocity < -(A : Int) → v = x.velocity - A)
      ∧ p = x.position + v
      ∧ (if (0 < (T : Int) - x.position ∧ (T : Int) ≤ p) ∨ ((T : Int) - x.position < 0 ∧ p ≤ T)
          then stepAxis S A r T x = ⟨T, 0⟩
          else if p < 0 then stepAxis S A r T x = ⟨0, 0⟩
          else if (r : Int) < p then stepAxis S A r T x = ⟨r, 0⟩
          else ((stepAxis S A r T x).position : Int) = p ∧ (stepAxis S A r T x).velocity = v))

/-- R97, R98: ENABLE ZONE WRITE, accepted in every state. R101: CLEAR ZONE, its checks in order and its effect; the latch is
cleared in every case. -/
def Obligations.EnableAndClearZone : Prop :=
  (∀ (t : Nat) (tag : Byte) (s : State), s.admits tag = true →
    exec (.enableZoneWrite t tag) s = .next (({ s.advance t with zones := { s.zones with writeEnable := true } }).answered
      0x48#8 tag .ok (.zoneLatch s.zones.writeEnable)))
  ∧ (∀ (t : Nat) (tag : Byte) (z : Nat) (s : State), s.admits tag = true →
    (s.zones.writeEnable = false → exec (.clearZone t tag z) s =
      .next (((s.advance t).withZoneWrite false).answered 0x4A#8 tag .zoneLocked (.zoneLatch false)))
    ∧ (s.zones.writeEnable = true → s.storeBusy = true → exec (.clearZone t tag z) s =
      .next (((s.advance t).withZoneWrite false).answered 0x4A#8 tag .storeBusy (.zoneLatch false)))
    ∧ (s.zones.writeEnable = true → s.storeBusy = false → 32 ≤ z → exec (.clearZone t tag z) s =
      .next (((s.advance t).withZoneWrite false).answered 0x4A#8 tag .badField (.zoneLatch false)))
    ∧ (s.zones.writeEnable = true → s.storeBusy = false → z < 32 → exec (.clearZone t tag z) s =
      .next ((((s.advance t).setZone z ⟨false, 0, 0, 0, 0, 0⟩).withZoneWrite false).answered 0x4A#8 tag .ok
        (.zoneLatch false))))

/-- R99, R100, R97: SET ZONE, its checks in order and its effect; the latch is cleared in every case. -/
def Obligations.SetZoneUsesUpTheEnable : Prop :=
  ∀ (t : Nat) (tag : Byte) (z : ZoneReq) (s : State), s.admits tag = true →
    (s.zones.writeEnable = false → exec (.setZone t tag z) s =
      .next (((s.advance t).withZoneWrite false).answered 0x49#8 tag .zoneLocked (.zoneLatch false)))
    ∧ (s.zones.writeEnable = true → s.storeBusy = true → exec (.setZone t tag z) s =
      .next (((s.advance t).withZoneWrite false).answered 0x49#8 tag .storeBusy (.zoneLatch false)))
    ∧ (s.zones.writeEnable = true → s.storeBusy = false →
      32 ≤ z.zone ∨ 64 ≤ z.group ∨ z.active = none ∨ z.panMax < z.panMin ∨ z.tiltMax < z.tiltMin → exec (.setZone t tag z) s =
        .next (((s.advance t).withZoneWrite false).answered 0x49#8 tag .badField (.zoneLatch false)))
    ∧ (∀ on : Bool, s.zones.writeEnable = true → s.storeBusy = false → z.zone < 32 → z.group < 64 → z.active = some on →
      z.panMin ≤ z.panMax → z.tiltMin ≤ z.tiltMax → ∃ r : Zone,
        r = ⟨on, z.group, min z.panMin.toNat 72000, min z.panMax.toNat 72000, min z.tiltMin.toNat 72000,
          min z.tiltMax.toNat 72000⟩
        ∧ exec (.setZone t tag z) s = .next ((((s.advance t).setZone z.zone r).withZoneWrite false).answered 0x49#8 tag
          (if 72000 < z.panMin.toNat ∨ 72000 < z.panMax.toNat ∨ 72000 < z.tiltMin.toNat ∨ 72000 < z.tiltMax.toNat
            then .clamped else .ok) (.zone r false)))

/-- R94, R103, R106, R107: a patched head standing in an active zone of a group it belongs to is dark in every frame built:
intensity 0, shutter closed, and without a dimmer every emitter 0. R106, R94, R103: the five conditions that force a patched
head dark, as READ HEAD lists them: the douse latch SET, the rig mode PARK, the head's condition HOMING or FAULTED, and a zone
it is in. R107: forced by any of them, its intensity is 0, its shutter closed and, without a dimmer, every emitter 0; forced
by none, its shutter is open. -/
def Obligations.HeadsInZonesAreDark : Prop :=
  (∀ (s : State) (h z : Nat) (q : Personality) (m : Motion), z < 32 → s.personalityOf h = some q → s.motion h = some m →
    (s.zone z).active = true → (s.group (s.zone z).group).getLsbD h = true →
    (s.zone z).panMin ≤ m.pan.position → m.pan.position ≤ (s.zone z).panMax →
    (s.zone z).tiltMin ≤ m.tilt.position → m.tilt.position ≤ (s.zone z).tiltMax →
      z ∈ s.zonesOf h ∧ (s.output h q m).intensity = 0 ∧ (s.output h q m).shutter = q.shutterClosed
      ∧ ((∀ r ∈ q.channelMap, r.role ≠ .dimmer) → q.system ≠ .subtractiveCmy → ∀ e ∈ (s.output h q m).emitters, e = 0))
  ∧ (∀ (s : State) (h : Nat), s.patched h = true →
    ((.douse ∈ s.forcing h ↔ s.merge.douseLatch = true) ∧ (.park ∈ s.forcing h ↔ s.merge.mode = .park)
      ∧ (.homing ∈ s.forcing h ↔ (s.watch h).condition = .homing)
      ∧ (.faulted ∈ s.forcing h ↔ (s.watch h).condition = .faulted)
      ∧ (.zone ∈ s.forcing h ↔ ∃ z, z ∈ s.zonesOf h))
    ∧ (∀ z, z ∈ s.zonesOf h ↔ z < 32 ∧ (s.zone z).active = true ∧ (s.group (s.zone z).group).getLsbD h = true
      ∧ ∃ m, s.motion h = some m ∧ (s.zone z).panMin ≤ m.pan.position ∧ m.pan.position ≤ (s.zone z).panMax
        ∧ (s.zone z).tiltMin ≤ m.tilt.position ∧ m.tilt.position ≤ (s.zone z).tiltMax)
    ∧ ∀ (q : Personality) (m : Motion),
      (s.merge.douseLatch = true ∨ s.merge.mode = .park ∨ (s.watch h).condition = .homing
          ∨ (s.watch h).condition = .faulted ∨ (∃ z, z ∈ s.zonesOf h) →
        (s.output h q m).intensity = 0 ∧ (s.output h q m).shutter = q.shutterClosed
        ∧ ((∀ r ∈ q.channelMap, r.role ≠ .dimmer) → q.system ≠ .subtractiveCmy → ∀ e ∈ (s.output h q m).emitters, e = 0))
      ∧ (s.merge.douseLatch = false → s.merge.mode ≠ .park → (s.watch h).condition ≠ .homing →
        (s.watch h).condition ≠ .faulted → s.zonesOf h = [] → (s.output h q m).shutter = q.shutterOpen))

/-- R116: the channel value of a position. -/
def Obligations.ChannelValueRoundsHalfUp : Prop :=
  ∀ (p r : Nat), 0 < r → p ≤ r →
    channelValue p r = (2 * p * 65535 + r) / (2 * r) ∧ channelValue p r ≤ 65535 ∧ channelValue 0 r = 0
    ∧ channelValue r r = 65535 ∧ sentValue p r false = channelValue p r ∧ sentValue p r true = 65535 - channelValue p r

/-- R113, R114: the colour values of each colour system, and the emitter values after gain and, for an additive personality
without a DIMMER, output intensity, each scaling rounded by itself. R105, R106, R107, R112, R115, R116: what a frame build
computes of a patched head, the slots its roles fill, and the slots of a frame: 1 to the slot count, each as a head of the
line fills it, or 0. -/
def Obligations.FramesPlaceEveryRole : Prop :=
  ((∀ c : Colour, convertColour .additiveRgb c = [c.red, c.green, c.blue]
    ∧ (∃ w, w ≤ c.red ∧ w ≤ c.green ∧ w ≤ c.blue ∧ (w = c.red ∨ w = c.green ∨ w = c.blue)
      ∧ convertColour .additiveRgbw c = [c.red - w, c.green - w, c.blue - w, w])
    ∧ convertColour .subtractiveCmy c = [65535 - c.red, 65535 - c.green, 65535 - c.blue])
  ∧ ∀ (q : Personality) (c : Colour) (intensity k e g : Nat), (convertColour q.system c)[k]? = some e → q.gains[k]? = some g →
    ((q.system = .subtractiveCmy ∨ ∃ r ∈ q.channelMap, r.role = .dimmer) →
      (emitterValues q c intensity)[k]? = some ((e * g + 32767) / 65535))
    ∧ (q.system ≠ .subtractiveCmy → (∀ r ∈ q.channelMap, r.role ≠ .dimmer) →
      (emitterValues q c intensity)[k]? = some ((((e * g + 32767) / 65535) * intensity + 32767) / 65535)))
  ∧ ((∀ (s : State) (h : Nat) (q : Personality) (m : Motion) (o : HeadOutput) (dark : Bool), o = s.output h q m →
    (dark = true ↔ s.merge.douseLatch = true ∨ s.merge.mode = .park ∨ (s.watch h).condition = .homing
      ∨ (s.watch h).condition = .faulted ∨ ∃ z, z ∈ s.zonesOf h) →
    o.pan = sentValue m.pan.position q.panRange (s.headPatch h).panInvert
    ∧ o.tilt = sentValue m.tilt.position q.tiltRange (s.headPatch h).tiltInvert
    ∧ (dark = true → o.intensity = 0 ∧ o.shutter = q.shutterClosed)
    ∧ (dark = false → o.shutter = q.shutterOpen)
    ∧ (dark = false → (∀ g, (s.headPatch h).blinkGenerator = some g → (s.generator g).on = true) →
      o.intensity = (s.mergedTarget h .intensity).num)
    ∧ (dark = false → (s.headPatch h).blinkMask = .colour → o.intensity = (s.mergedTarget h .intensity).num)
    ∧ (∀ g, (s.headPatch h).blinkGenerator = some g → (s.generator g).on = false → (s.headPatch h).blinkMask ≠ .colour →
      o.intensity = 0)
    ∧ (∀ g, (s.headPatch h).blinkGenerator = some g → (s.generator g).on = false → (s.headPatch h).blinkMask ≠ .intensity →
      o.emitters = emitterValues q (s.headPatch h).altColour o.intensity)
    ∧ ((∀ g, (s.headPatch h).blinkGenerator = some g → (s.generator g).on = true) →
      o.emitters = emitterValues q (s.mergedTarget h .colour).rgb o.intensity)
    ∧ ((s.headPatch h).blinkMask = .intensity →
      o.emitters = emitterValues q (s.mergedTarget h .colour).rgb o.intensity))
  ∧ (∀ (s : State) (h : Nat) (p : Placement) (q : Personality) (m : Motion) (o : HeadOutput), s.placement h = some p →
    s.personalityOf h = some q → s.motion h = some m → o = s.output h q m →
    ∀ (k : Nat) (b : Byte), (k, b) ∈ s.headSlots h ↔ ∃ r ∈ q.channelMap,
      (r.role = .shutter ∧ k = p.base + r.offset ∧ b = o.shutter)
      ∨ (r.role = .control ∧ r.width = .w8 ∧ k = p.base + r.offset ∧ b = BitVec.ofNat 8 r.fixed)
      ∨ ∃ u : Nat,
        (r.role = .pan ∧ u = o.pan ∨ r.role = .tilt ∧ u = o.tilt ∨ r.role = .dimmer ∧ u = o.intensity
          ∨ r.role = .control ∧ r.width = .w16 ∧ u = r.fixed
          ∨ (r.role = .emitter1 ∨ r.role = .cyan) ∧ u = o.emitters.getD 0 0
          ∨ (r.role = .emitter2 ∨ r.role = .magenta) ∧ u = o.emitters.getD 1 0
          ∨ (r.role = .emitter3 ∨ r.role = .yellow) ∧ u = o.emitters.getD 2 0
          ∨ r.role = .emitter4 ∧ u = o.emitters.getD 3 0)
        ∧ (k = p.base + r.offset ∧ b = BitVec.ofNat 8 (u / 256)
          ∨ r.width = .w16 ∧ k = p.base + r.offset + 1 ∧ b = BitVec.ofNat 8 (u % 256)))
  ∧ ∀ (s : State) (l : Nat), (s.frameSlots l).length = s.slotCount l ∧ ∀ k < s.slotCount l,
    ((∀ h ∈ s.headsOn l, ∀ e ∈ s.headSlots h, e.1 ≠ k + 1) → (s.frameSlots l)[k]? = some 0#8)
    ∧ ∀ b : Byte, (∃ h ∈ s.headsOn l, (k + 1, b) ∈ s.headSlots h) →
      (∀ h ∈ s.headsOn l, ∀ e ∈ s.headSlots h, e.1 = k + 1 → e.2 = b) → (s.frameSlots l)[k]? = some b)

/-! ## Effects and show inputs -/

/-- R110: the generator form of SET BLINK. R111, R109: a blink assignment to a patched head, to a group, and the toggle of a
running generator whose next quarter-beat brings its count to its rate; any other count is left (notes/assumptions/2.md). -/
def Obligations.BlinkRequestsAndToggle : Prop :=
  (∀ (t : Nat) (tag : Byte) (g : Nat) (rate : Int) (s : State), s.admits tag = true → g < 4 →
    exec (.setBlinkGenerator t tag g rate (some .run)) s =
      .next (((s.advance t).setGenerator g ⟨clamp 1 64 rate, true, (s.generator g).on, (s.generator g).count⟩).answered
        0x4C#8 tag (if rate < 1 ∨ 64 < rate then .clamped else .ok)
        (.generator ⟨clamp 1 64 rate, true, (s.generator g).on, (s.generator g).count⟩))
    ∧ ((s.generator g).running = true → exec (.setBlinkGenerator t tag g rate (some .stop)) s =
      .next (((s.advance t).setGenerator g ⟨clamp 1 64 rate, false, true, 0⟩).answered 0x4C#8 tag
        (if rate < 1 ∨ 64 < rate then .clamped else .ok) (.generator ⟨clamp 1 64 rate, false, true, 0⟩)))
    ∧ ((s.generator g).running = false → exec (.setBlinkGenerator t tag g rate (some .stop)) s =
      .next (((s.advance t).setGenerator g ⟨clamp 1 64 rate, false, (s.generator g).on, (s.generator g).count⟩).answered
        0x4C#8 tag (if rate < 1 ∨ 64 < rate then .clamped else .ok)
        (.generator ⟨clamp 1 64 rate, false, (s.generator g).on, (s.generator g).count⟩))))
  ∧ (∀ (t : Nat) (tag : Byte) (g : Option Nat) (mask : BlinkMask) (s : State), (∀ k, g = some k → k < 4) →
    (∀ h < 512, s.admits tag = true → s.storeBusy = false → s.patched h = true →
      exec (.setBlinkAssignment t tag (some (.head h)) g (some mask)) s =
        .next (((s.advance t).setHeadPatch h { s.headPatch h with blinkGenerator := g, blinkMask := mask }).answered 0x4C#8 tag
          .ok (.written 1)))
    ∧ (∀ gr < 64, s.admits tag = true → s.storeBusy = false → s.patchedHeads.Nodup →
      ∃ v : State, exec (.setBlinkAssignment t tag (some (.group gr)) g (some mask)) s = .next (v.answered 0x4C#8 tag .ok
          (.written (s.patchedHeads.filter (fun h => (s.group gr).getLsbD h)).length))
        ∧ ∀ h, v.headPatch h = if s.patched h = true ∧ (s.group gr).getLsbD h = true
            then { s.headPatch h with blinkGenerator := g, blinkMask := mask } else s.headPatch h)
    ∧ ∀ k : Fin 4, s.merge.mode ≠ .hold → (s.generator k).running = true →
      ((s.generator k).rate ≤ (s.generator k).count + 1 → exec (.blinkToggle t k) s =
        .next ((s.advance t).setGenerator k { s.generator k with on := !(s.generator k).on, count := 0 }).startTransmit)
      ∧ ((s.generator k).count + 1 < (s.generator k).rate → exec (.blinkToggle t k) s = .next (s.advance t).startTransmit))

/-- R123, R124: SET TEMPO and SET BEAT SOURCE. The refusal is its status alone (notes/assumptions/14.md). R122, R125: the
internal beat timer and the subdivision timer expire; that an expiry is taken at its word is log 2, that a timer is reloaded
from the present reading log 18. -/
def Obligations.TempoRequestsAndBeatTimers : Prop :=
  (∀ (t : Nat) (tag : Byte) (v : Int) (s : State), s.admits tag = true →
    (s.inputs.beat.source = .external → exec (.setTempo t tag v) s =
      .next ((s.advance t).answered 0x50#8 tag .wrongState .bare))
    ∧ (s.inputs.beat.source = .internal → exec (.setTempo t tag v) s =
      .next (((s.advance t).setBeat { s.inputs.beat with period := clamp 200000 2000000 v, history := [] }).answered 0x50#8
        tag (if v < 200000 ∨ 2000000 < v then .clamped else .ok) (.tempo (clamp 200000 2000000 v))))
    ∧ (s.inputs.beat.setting = .auto → s.inputs.beat.source = .external → exec (.setBeatSource t tag (some .forceInternal)) s =
      .next (((((s.advance t).setBeat
        { s.inputs.beat with setting := .forceInternal, source := .internal, missed := 0 }).notify
          (.beatSource .internal .forceInternal s.inputs.beat.period s.inputs.beat.history.length .force))).answered 0x51#8
        tag .ok (.beatSource .internal .forceInternal)))
    ∧ (s.inputs.beat.setting = .auto → s.inputs.beat.source = .internal → exec (.setBeatSource t tag (some .forceInternal)) s =
      .next (((s.advance t).setBeat { s.inputs.beat with setting := .forceInternal }).answered 0x51#8 tag .ok
        (.beatSource .internal .forceInternal)))
    ∧ (s.inputs.beat.setting = .forceInternal → exec (.setBeatSource t tag (some .auto)) s =
      .next (((s.advance t).setBeat { s.inputs.beat with setting := .auto, previousPulse := none }).answered 0x51#8 tag .ok
        (.beatSource s.inputs.beat.source .auto)))
    ∧ (∀ x, s.inputs.beat.setting = x → exec (.setBeatSource t tag (some x)) s =
      .next ((s.advance t).answered 0x51#8 tag .ok (.beatSource s.inputs.beat.source x))))
  ∧ (∀ (t : Nat) (s : State),
    (s.inputs.beat.source = .internal → exec (.internalBeatExpiry t) s =
      .next ((((s.advance t).setBeat { s.inputs.beat with timer := (s.advance t).now + s.inputs.beat.period }).beatEvent)).startTransmit)
    ∧ (s.inputs.beat.source = .external → s.inputs.beat.missed = 0 → exec (.internalBeatExpiry t) s =
      .next ((s.advance t).setBeat { s.inputs.beat with
        missed := 1, timer := (s.advance t).now + s.inputs.beat.period }).startTransmit)
    ∧ (s.inputs.beat.source = .external → s.inputs.beat.missed ≠ 0 → exec (.internalBeatExpiry t) s =
      .next (((((s.advance t).setBeat { s.inputs.beat with source := .internal, missed := 0 }).notify
        (.beatSource .internal s.inputs.beat.setting s.inputs.beat.period s.inputs.beat.history.length .loss)).setBeat
          { s.inputs.beat with
            source := .internal, missed := 0, timer := (s.advance t).now + s.inputs.beat.period }).beatEvent).startTransmit)
    ∧ (∀ x, s.inputs.beat.subdivision = some x → exec (.subdivisionExpiry t) s =
      .next (((s.advance t).setBeat { s.inputs.beat with
        subdivision := if x.next < 3 then some ⟨(s.advance t).now + x.reload, x.reload, x.next + 1⟩
          else none }).quarterBeat).startTransmit))

/-- R120, R121: a pulse on the beat line, ignored under FORCE_INTERNAL, rejected and accepted. `beatEvent` is the beat event
of R125. -/
def Obligations.BeatPulseByRuleAndSource : Prop :=
  ∀ (t : Nat) (s : State),
    (s.inputs.beat.setting = .forceInternal → exec (.beatPulse t) s = .next (s.advance t).startTransmit)
    ∧ (s.inputs.beat.setting = .auto → s.inputs.beat.source = .internal →
      (s.inputs.beat.previousPulse = none ∨ ∃ p, s.inputs.beat.previousPulse = some p ∧
        ((s.advance t).now - p < 200000 ∨ 2000000 < (s.advance t).now - p)) →
      exec (.beatPulse t) s = .next ((s.advance t).setBeat
        { s.inputs.beat with previousPulse := some (s.advance t).now }).startTransmit)
    ∧ (∀ p, s.inputs.beat.setting = .auto → s.inputs.beat.previousPulse = some p →
      200000 ≤ (s.advance t).now - p → (s.advance t).now - p ≤ 2000000 →
      ∃ (h : List Nat) (m : Nat) (v : State), h = (if s.inputs.beat.history.length < 4 then s.inputs.beat.history
            else s.inputs.beat.history.drop 1) ++ [(s.advance t).now - p]
        ∧ m = h.foldl (· + ·) 0 / h.length
        ∧ v = (s.advance t).setBeat { s.inputs.beat with
            source := .external, previousPulse := some (s.advance t).now, history := h, period := m }
        ∧ exec (.beatPulse t) s = .next ((((if s.inputs.beat.source = .internal
              then v.notify (.beatSource .external .auto m h.length .pulse) else v).setBeat
            { v.inputs.beat with timer := (s.advance t).now + m, missed := 0 }).beatEvent).startTransmit))
    ∧ (s.inputs.beat.setting = .auto → s.inputs.beat.source = .external →
      (s.inputs.beat.previousPulse = none ∨ ∃ p, s.inputs.beat.previousPulse = some p ∧
        ((s.advance t).now - p < 200000 ∨ 2000000 < (s.advance t).now - p)) →
      exec (.beatPulse t) s = .next (((s.advance t).setBeat
        { s.inputs.beat with
          previousPulse := some (s.advance t).now, timer := (s.advance t).now + s.inputs.beat.period,
          missed := 0 }).beatEvent).startTransmit)

/-- R48, R109, R125: what a beat event and a quarter-beat do. In HOLD neither reaches layers or generators. Otherwise the
layers count one after another, ascending, a CHASE layer whose count reaches its chase beats making a GO; every running
generator counts, and one whose count reaches its rate toggles. A beat event is a beat for the layers, quarter 0 for the
generators, and the subdivision timer reloaded with a quarter of the period. The cue that TAKE_FAILED names is log 19's
reading. -/
def Obligations.BeatEventsReachLayersAndGenerators : Prop :=
  ∀ s : State,
    (s.merge.mode = .hold → s.beatLayers = s ∧ s.quarterBeat = s)
    ∧ (s.merge.mode ≠ .hold → s.beatLayers = (List.range 12).foldl State.beatLayer s)
    ∧ (∀ l, ((s.layer l).settings.mode ≠ .chase ∨ ((s.layer l).state ≠ .running ∧ (s.layer l).state ≠ .settled)) →
      s.beatLayer l = s)
    ∧ (∀ l, (s.layer l).settings.mode = .chase → ((s.layer l).state = .running ∨ (s.layer l).state = .settled) →
      ((s.layer l).chaseCount + 1 < (s.layer l).settings.chaseBeats →
        s.beatLayer l = s.setLayer l { s.layer l with chaseCount := (s.layer l).chaseCount + 1 })
      ∧ ((s.layer l).settings.chaseBeats ≤ (s.layer l).chaseCount + 1 →
        ∃ u : State, u = s.setLayer l { s.layer l with chaseCount := 0 }
          ∧ (∀ v i, u.goTake l = .taken v i → s.beatLayer l = v.notify (.cueTaken l i.cue .chase .go))
          ∧ (∀ st cue, u.goTake l = .refused st cue → s.beatLayer l = u.notify (.takeFailed l .chase none st cue))))
    ∧ (s.merge.mode ≠ .hold → s.quarterBeat = { s with effects := s.quarterBeat.effects }
      ∧ ∀ g < 4, s.quarterBeat.generator g =
        if (s.generator g).running = true then
          (if (s.generator g).rate ≤ (s.generator g).count + 1
            then { s.generator g with on := !(s.generator g).on, count := 0 }
            else { s.generator g with count := (s.generator g).count + 1 })
        else s.generator g)
    ∧ s.beatEvent = (s.beatLayers.quarterBeat).setBeat { s.inputs.beat with
      subdivision := some ⟨s.now + s.inputs.beat.period / 4, s.inputs.beat.period / 4, 1⟩ }

/-- R127, R128, R49: a valid timecode message received whole with no message being assembled; a discard, whatever has been
assembled; and the loss of lock. That the lock timer's expiry is taken at its word is log 2; that the loss of lock leaves the
message being assembled as it is, the choice of log 21. -/
def Obligations.TimecodeLocksAndLoses : Prop :=
  ∀ (t : Nat) (h m sec f : Byte) (s : State),
    (s.inputs.timecode.partialChars = [] → h.toNat < 24 → m.toNat < 60 → sec.toNat < 60 → f.toNat < 30 →
      ∃ (n : Nat) (v : State), n = ((h.toNat * 60 + m.toNat) * 60 + sec.toNat) * 30 + f.toNat
        ∧ v = (s.advance t).setTimecode ⟨true, n, some ((s.advance t).now + 100000), []⟩
        ∧ exec (.timecodeMessage t [0xA5#8, h, m, sec, f, h + m + sec + f]) s =
          .next ((if s.inputs.timecode.locked then v else v.notify (.timecode true n)).timecodeLayers n).startTransmit)
    ∧ (∀ check : Byte, s.inputs.timecode.partialChars = [] →
      check ≠ h + m + sec + f ∨ 24 ≤ h.toNat ∨ 60 ≤ m.toNat ∨ 60 ≤ sec.toNat ∨ 30 ≤ f.toNat →
      exec (.timecodeMessage t [0xA5#8, h, m, sec, f, check]) s = .next (s.advance t).startTransmit)
    ∧ (∀ next : Byte, exec (.timecodeMessageDiscard t (.gap next)) s =
      .next ((s.advance t).setTimecode { s.inputs.timecode with
        partialChars := if next = 0xA5#8 then [next] else [] }).startTransmit)
    ∧ exec (.timecodeMessageDiscard t .range) s =
      .next ((s.advance t).setTimecode { s.inputs.timecode with partialChars := [] }).startTransmit
    ∧ exec (.timecodeMessageDiscard t .check) s =
      .next ((s.advance t).setTimecode { s.inputs.timecode with partialChars := [] }).startTransmit
    ∧ (s.inputs.timecode.lockTimer ≠ none → exec (.timecodeLockExpiry t) s =
      .next (((s.advance t).setTimecode { s.inputs.timecode with locked := false, lockTimer := none }).notify
        (.timecode false s.inputs.timecode.frame)).startTransmit)

/-- R49: what a timecode frame does to the layers. In HOLD or with the receiver LOST nothing; otherwise the layers are taken
one after another, ascending. A TIMECODE layer whose target, the highest-numbered cue whose tc_frame is at or below the frame,
is not its current cue takes it, as GO does when it is the timecode successor and by GOTO otherwise. A refusal leaves the
layer but for the refused target, and is told once; that TAKE_FAILED carries the target is log 19's reading. -/
def Obligations.TimecodeFramesMoveTheirLayers : Prop :=
  ∀ (s : State) (f : Nat),
    (s.merge.mode = .hold ∨ s.inputs.timecode.locked = false → s.timecodeLayers f = s)
    ∧ (s.merge.mode ≠ .hold → s.inputs.timecode.locked = true →
      s.timecodeLayers f = (List.range 12).foldl (State.timecodeLayer f) s)
    ∧ ∀ l, ((s.layer l).settings.mode ≠ .timecode → State.timecodeLayer f s l = s)
      ∧ ((∀ c ∈ s.layerCues l, ∀ x, c.tcFrame = some x → f < x) → State.timecodeLayer f s l = s)
      ∧ ∀ (c : Cue) (x : Nat), (s.layer l).settings.mode = .timecode →
        (s.layerCues l).Pairwise (fun a b => a.number < b.number) → c ∈ s.layerCues l → c.tcFrame = some x → x ≤ f →
        (∀ d ∈ s.layerCues l, ∀ y, d.tcFrame = some y → y ≤ f → d.number ≤ c.number) →
          ((s.layer l).currentCue = some c.number → State.timecodeLayer f s l = s)
          ∧ ((s.layer l).currentCue ≠ some c.number → ∃ refused : Status → State,
            (∀ st, refused st = if (s.layer l).refusedTarget = some c.number then s
              else (s.setLayer l { s.layer l with refusedTarget := some c.number }).notify
                (.takeFailed l .timecode none st (some c.number)))
            ∧ ((∀ n, (s.layer l).currentCue = some n → n < c.number) →
              (∀ d ∈ s.layerCues l, d.tcFrame ≠ none → (∀ n, (s.layer l).currentCue = some n → n < d.number) →
                c.number ≤ d.number) →
              (s.loading = true → State.timecodeLayer f s l = refused .storeBusy)
              ∧ (s.loading = false → s.freeSlots < slotsNeeded (s.layer l).slots (s.cueWants c) →
                State.timecodeLayer f s l = refused .slotPoolFull)
              ∧ (s.loading = false → slotsNeeded (s.layer l).slots (s.cueWants c) ≤ s.freeSlots →
                ∃ v : State, State.timecodeLayer f s l = v.notify (.cueTaken l c.number .timecode .go)
                  ∧ v.layer l = { s.layer l with
                      state := .running, pausedFrom := none, chaseCount := 0, currentCue := some c.number,
                      followMs := c.followMs, refusedTarget := none,
                      slots := s.takenSlots (s.layer l).slots c (s.cueWants c) (s.layer l).slots }
                  ∧ (∀ k, k ≠ l → v.layer k = s.layer k)
                  ∧ v.playback.takeStack = s.playback.takeStack.erase l ++ [l]
                  ∧ v = { s with playback := v.playback }))
            ∧ ((∃ n, (s.layer l).currentCue = some n ∧ c.number ≤ n)
                ∨ (∃ d ∈ s.layerCues l, d.tcFrame ≠ none ∧ (∀ n, (s.layer l).currentCue = some n → n < d.number)
                  ∧ d.number < c.number) →
              (∀ v i, s.gotoTake l c.number = .taken v i →
                State.timecodeLayer f s l = v.notify (.cueTaken l i.cue .timecode .goto))
              ∧ (∀ st q, s.gotoTake l c.number = .refused st q → State.timecodeLayer f s l = refused st)))

/-- R129, R131: an edge on a trigger line: ignored while STARTING or within 10 ms; held at or below the floor; a flag already
set stays set; above the floor, or with the action NONE, the flag is acted on, shown whole for NONE and HOLD. R129, R131: an
accepted edge sets a flag that is set already and does not act on it, whatever the floor; a clear flag above the floor is
acted on, and so is one whose action is NONE. R131, R130: what acting on a flag does, for each of the ten actions: the flag is
cleared and the action reaches its owner as the request of its name; an accepted one is told by TRIGGER_TAKEN with its
outcome, a refused one by TAKE_FAILED. `w` is the state with the flag cleared. The cue that TAKE_FAILED names is log 19's
reading. -/
def Obligations.TriggerEdgesActAboveTheFloor : Prop :=
  (∀ (t : Nat) (n : Fin 8) (s : State),
    (s.startUp = .starting → exec (.triggerEdge t n) s = .next (s.advance t).startTransmit)
    ∧ (∀ e, (s.trigger n).lastEdge = some e → (s.advance t).now < e + 10000 →
      exec (.triggerEdge t n) s = .next (s.advance t).startTransmit)
    ∧ (s.startUp ≠ .starting → (∀ e, (s.trigger n).lastEdge = some e → e + 10000 ≤ (s.advance t).now) →
      ((s.trigger n).entry.action ≠ .none → (s.trigger n).entry.precedence ≤ s.inputs.floor → exec (.triggerEdge t n) s =
        .next ((s.advance t).setTrigger n ⟨true, some (s.advance t).now, (s.trigger n).entry⟩).startTransmit)
      ∧ ((s.trigger n).pending = false → (s.trigger n).entry.action = .none → exec (.triggerEdge t n) s =
        .next (((s.advance t).setTrigger n ⟨true, some (s.advance t).now, (s.trigger n).entry⟩).setTrigger n
          ⟨false, some (s.advance t).now, (s.trigger n).entry⟩).startTransmit)
      ∧ ((s.trigger n).pending = false → (s.trigger n).entry.action = .hold → s.inputs.floor < (s.trigger n).entry.precedence →
        exec (.triggerEdge t n) s = .next (((((s.advance t).setTrigger n
            ⟨true, some (s.advance t).now, (s.trigger n).entry⟩).setTrigger n
            ⟨false, some (s.advance t).now, (s.trigger n).entry⟩).withMode .hold).notify
          (.triggerTaken n .hold (.modeBefore s.merge.mode))).startTransmit)))
  ∧ (∀ (t : Nat) (n : Fin 8) (s u : State), s.startUp ≠ .starting →
    (∀ e, (s.trigger n).lastEdge = some e → e + 10000 ≤ (s.advance t).now) →
    u = (s.advance t).setTrigger n ⟨true, some (s.advance t).now, (s.trigger n).entry⟩ →
      ((s.trigger n).pending = true → exec (.triggerEdge t n) s = .next u.startTransmit)
      ∧ ((s.trigger n).pending = false → ((s.trigger n).entry.action = .none
          ∨ s.inputs.floor < (s.trigger n).entry.precedence) → exec (.triggerEdge t n) s = .next (u.actOn n).startTransmit))
  ∧ (∀ (s w : State) (n : Nat) (a : Action), w = s.setTrigger n { s.trigger n with pending := false } →
    (s.trigger n).entry.action = a →
      (a = .none → s.actOn n = w)
      ∧ (a = .hold → s.actOn n = ({ w with merge := { w.merge with mode := .hold } }).notify
        (.triggerTaken n .hold (.modeBefore s.merge.mode)))
      ∧ (a = .park → s.actOn n = ({ w with merge := { w.merge with mode := .park } }).notify
        (.triggerTaken n .park (.modeBefore s.merge.mode)))
      ∧ (a = .run → s.actOn n = ({ w with merge := { w.merge with mode := .run } }).notify
        (.triggerTaken n .run (.modeBefore s.merge.mode)))
      ∧ (∀ v, a = .setMask v → v ≤ 15 → s.actOn n = ({ w with merge := { w.merge with mask := v } }).notify
        (.triggerTaken n (.setMask v) (.mask s.merge.mask v)))
      ∧ (∀ l, a = .kill l → ∃ v : State, s.actOn n = v.notify (.triggerTaken n (.kill l) (.layerState .idle))
        ∧ v.layer l = ⟨(s.layer l).settings, .idle, none, 0, none, none, none, []⟩
        ∧ (∀ k, k ≠ l → v.layer k = s.layer k) ∧ v.playback.takeStack = s.playback.takeStack.erase l
        ∧ v = { w with playback := v.playback })
      ∧ (∀ l, a = .release l → (s.layer l).state = .idle →
        s.actOn n = w.notify (.takeFailed l .trigger (some n) .wrongState none))
      ∧ (∀ l, a = .release l → (s.layer l).state ≠ .idle → s.actOn n = (w.setLayer l { s.layer l with
          state := .releasing, pausedFrom := none, followMs := none,
          slots := (s.layer l).slots.map (fun x =>
            if x.attr = .intensity
            then ⟨x.head, x.attr, x.value, .scalar 0, 0, (s.layer l).settings.releaseMs, 0, .none⟩
            else ⟨x.head, x.attr, x.value, x.value, 0, 0, 0, .none⟩) }).notify
        (.triggerTaken n (.release l) (.layerState .releasing)))
      ∧ (∀ l, a = .pause l → (s.layer l).state ≠ .running → (s.layer l).state ≠ .releasing →
        s.actOn n = w.notify (.takeFailed l .trigger (some n) .wrongState none))
      ∧ (∀ l, a = .pause l → (s.layer l).state = .running → s.actOn n = (w.setLayer l
        { s.layer l with state := .paused, pausedFrom := some .running }).notify
          (.triggerTaken n (.pause l) (.layerState .paused)))
      ∧ (∀ l, a = .pause l → (s.layer l).state = .releasing → s.actOn n = (w.setLayer l
        { s.layer l with state := .paused, pausedFrom := some .releasing }).notify
          (.triggerTaken n (.pause l) (.layerState .paused)))
      ∧ (∀ l, a = .resume l → (s.layer l).state ≠ .paused →
        s.actOn n = w.notify (.takeFailed l .trigger (some n) .wrongState none))
      ∧ (∀ l, a = .resume l → (s.layer l).state = .paused → (s.layer l).pausedFrom = some .running → s.actOn n = (w.setLayer l
        { s.layer l with state := .running, pausedFrom := none }).notify
          (.triggerTaken n (.resume l) (.layerState .running)))
      ∧ (∀ l, a = .resume l → (s.layer l).state = .paused → (s.layer l).pausedFrom = some .releasing → s.actOn n =
        (w.setLayer l { s.layer l with state := .releasing, pausedFrom := none }).notify
          (.triggerTaken n (.resume l) (.layerState .releasing)))
      ∧ (∀ l, a = .go l → (∀ v i, w.goTake l = .taken v i → s.actOn n =
            (v.notify (.cueTaken l i.cue .trigger .go)).notify (.triggerTaken n (.go l) (.layerState .running)))
          ∧ (∀ st cue, w.goTake l = .refused st cue →
            s.actOn n = w.notify (.takeFailed l .trigger (some n) st cue))))

/-- R130, R132, R133: SET TRIGGER with the flag clear, SET TRIGGER FLOOR with no flag set, and CLEAR TRIGGER of one line or of
all, which clears the flags and does nothing else. R130, R131, R132: SET TRIGGER with the line's flag set: the stored entry
applies to it at once. SET TRIGGER FLOOR: the flags taken one after another, ascending, each acted on by the new floor before
the next is tested; `r n` is the state and the number acted on when the lines below `n` have been taken. -/
def Obligations.TriggerRequestsWithClearFlags : Prop :=
  (∀ (t : Nat) (tag : Byte) (v : Int) (s : State), s.admits tag = true →
    (∀ n < 8, ∀ a : ActionReq, s.storeBusy = false → (s.trigger n).pending = false →
      (∀ l, actionLayer a = some l → l < 12) → exec (.setTrigger t tag n (some a) v) s =
        .next (((s.advance t).setTrigger n { s.trigger n with entry := ⟨storedAction a, clamp 1 15 v⟩ }).answered 0x52#8 tag
          (if v < 1 ∨ 15 < v ∨ actionClamps a = true then .clamped else .ok)
          (.trigger ⟨storedAction a, clamp 1 15 v⟩ false)))
    ∧ ((∀ n < 8, (s.trigger n).pending = false) → exec (.setTriggerFloor t tag v) s =
      .next (({ s.advance t with inputs := { s.inputs with floor := clamp 0 15 v } }).answered 0x53#8 tag
        (if v < 0 ∨ 15 < v then .clamped else .ok) (.floor s.inputs.floor (clamp 0 15 v) 0)))
    ∧ (∀ n < 8, exec (.clearTrigger t tag (some n)) s =
      .next (((s.advance t).setTrigger n { s.trigger n with pending := false }).answered 0x54#8 tag .ok
        (.cleared [(n, (s.trigger n).pending)])))
    ∧ (∀ (u : State) (n : Nat), u.clearFlag n = u.setTrigger n { u.trigger n with pending := false })
    ∧ ∃ u : State, u = (List.range 8).foldl State.clearFlag (s.advance t)
      ∧ exec (.clearTrigger t tag none) s = .next (u.answered 0x54#8 tag .ok
        (.cleared ((List.range 8).map (fun n => (n, (s.trigger n).pending)))))
      ∧ ∀ n < 8, u.trigger n = { s.trigger n with pending := false })
  ∧ (∀ (t : Nat) (tag : Byte) (v : Int) (s : State), s.admits tag = true →
    (∀ n < 8, ∀ a : ActionReq, s.storeBusy = false → (s.trigger n).pending = true →
      (∀ l, actionLayer a = some l → l < 12) → ∃ u : State,
        u = (s.advance t).setTrigger n { s.trigger n with entry := ⟨storedAction a, clamp 1 15 v⟩ }
        ∧ (storedAction a = .none ∨ s.inputs.floor < clamp 1 15 v → exec (.setTrigger t tag n (some a) v) s =
          .next ((u.actOn n).answered 0x52#8 tag (if v < 1 ∨ 15 < v ∨ actionClamps a = true then .clamped else .ok)
            (.trigger ⟨storedAction a, clamp 1 15 v⟩ false)))
        ∧ (storedAction a ≠ .none → clamp 1 15 v ≤ s.inputs.floor → exec (.setTrigger t tag n (some a) v) s =
          .next (u.answered 0x52#8 tag (if v < 1 ∨ 15 < v ∨ actionClamps a = true then .clamped else .ok)
            (.trigger ⟨storedAction a, clamp 1 15 v⟩ true))))
    ∧ ∃ r : Nat → State × Nat,
      r 0 = ({ s.advance t with inputs := { s.inputs with floor := clamp 0 15 v } }, 0)
      ∧ (∀ n < 8, ((r n).1.trigger n).pending = true → (((r n).1.trigger n).entry.action = .none
          ∨ clamp 0 15 v < ((r n).1.trigger n).entry.precedence) → r (n + 1) = ((r n).1.actOn n, (r n).2 + 1))
      ∧ (∀ n < 8, ((r n).1.trigger n).pending = false ∨ ((r n).1.trigger n).entry.action ≠ .none
          ∧ ((r n).1.trigger n).entry.precedence ≤ clamp 0 15 v → r (n + 1) = r n)
      ∧ exec (.setTriggerFloor t tag v) s = .next ((r 8).1.answered 0x53#8 tag
        (if v < 0 ∨ 15 < v then .clamped else .ok) (.floor s.inputs.floor (clamp 0 15 v) (r 8).2)))

/-! ## Head lines and supervision -/

/-- R148: CONFIGURE LINE of a line that stays enabled: the four settings replaced, the wait counter cut, and nothing else.
R148, R143, R161: CONFIGURE LINE that disables an enabled line: its queue is emptied, its timers stop, and from then on no
turn is granted. The removed console entries are answered ABORTED, oldest first (notes/assumptions/29.md). Supervision takes
the removed HOME entries back: the homing count falls by one for each, the head's stage becomes NONE when it is FAULTED and
otherwise QUEUED, at the oldest end of the re-home queue, where several keep their order (notes/assumptions/12.md); then the
dispatch is run. `w` is the state before the dispatch. R148: CONFIGURE LINE that enables a disabled line: the audit timer is
started, and with patched heads refresh due is set, which is a decision. R148: CONFIGURE LINE of a line that is disabled and
stays so: the four settings replaced, the wait counter cut, and nothing else. -/
def Obligations.ConfigureLineReplacesSettings : Prop :=
  (∀ (t : Nat) (tag : Byte) (c : LineReq) (s : State), s.admits tag = true → s.storeBusy = false → c.line < 16 →
    c.enabled = some true → (s.line c.line).settings.enabled = true →
      ∃ st : LineSettings, st = ⟨true, clamp 10 1000 c.refreshPeriod, clamp 1 15 c.routineMaxWait,
          clamp 20 5000 c.auditInterval⟩
        ∧ exec (.configureLine t tag c) s = .next (((s.advance t).setLine c.line
            { s.line c.line with settings := st, wait := min (s.line c.line).wait st.maxWait }).answered 0x58#8 tag
          (if lineClamps c then .clamped else .ok) (.lineSettings st (effectiveMs st.refreshMs (s.slotCount c.line)))))
  ∧ (∀ (t : Nat) (tag : Byte) (c : LineReq) (s : State), s.admits tag = true → s.storeBusy = false → c.line < 16 →
    c.enabled = some false → (s.line c.line).settings.enabled = true →
      ∃ (v : State) (st : LineSettings), exec (.configureLine t tag c) s = .next (v.answered 0x58#8 tag
          (if lineClamps c then .clamped else .ok) (.lineSettings st (effectiveMs st.refreshMs (s.slotCount c.line))))
        ∧ st = ⟨false, clamp 10 1000 c.refreshPeriod, clamp 1 15 c.routineMaxWait, clamp 20 5000 c.auditInterval⟩
        ∧ (v.line c.line).settings = st ∧ (v.line c.line).queue = [] ∧ (v.line c.line).wait = 0
        ∧ (v.line c.line).refreshTimer = none ∧ (v.line c.line).auditTimer = none ∧ (v.line c.line).refreshDue = false
        ∧ (v.line c.line).turn = (s.line c.line).turn ∧ (v.line c.line).snapshot = (s.line c.line).snapshot
        ∧ v.patch = s.patch ∧ v.playback = s.playback ∧ v.limiter = s.limiter ∧ v.merge = s.merge
        ∧ ∃ (w : State) (homes : List Nat),
          homes = ((s.line c.line).queue.filter (fun e => decide (e.kind = .home))).map QueryEntry.head
          ∧ (homes = [] → v = w) ∧ (homes ≠ [] → v = w.dispatch)
          ∧ w.supervision.homingCount = s.supervision.homingCount - homes.length
          ∧ w.supervision.homingLimit = s.supervision.homingLimit
          ∧ w.supervision.rehomeQueue =
            homes.filter (fun h => decide ((s.watch h).condition ≠ .faulted)) ++ s.supervision.rehomeQueue
          ∧ (∀ h ∈ homes, w.watch h =
            { s.watch h with stage := if (s.watch h).condition = .faulted then .none else .queued })
          ∧ (∀ h, h ∉ homes → w.watch h = s.watch h)
          ∧ (∀ k, k ≠ c.line → w.line k = s.line k)
          ∧ w.link.replies = s.link.replies ++ (s.line c.line).queue.filterMap (fun e =>
              match e.origin with
              | .console q => some ⟨0x59#8, q, .aborted, .bare, false⟩
              | .audit => none
              | .supervision => none)
          ∧ w.link.notices = s.link.notices)
  ∧ (∀ (t : Nat) (tag : Byte) (c : LineReq) (s : State), s.admits tag = true → s.storeBusy = false → c.line < 16 →
    c.enabled = some true → (s.line c.line).settings.enabled = false →
      ∃ (st : LineSettings) (y : Line),
        st = ⟨true, clamp 10 1000 c.refreshPeriod, clamp 1 15 c.routineMaxWait, clamp 20 5000 c.auditInterval⟩
        ∧ y = { s.line c.line with
            settings := st, wait := min (s.line c.line).wait st.maxWait,
            auditTimer := some ((s.advance t).now + 1000 * st.auditMs) }
        ∧ (s.slotCount c.line = 0 → exec (.configureLine t tag c) s = .next (((s.advance t).setLine c.line y).answered 0x58#8 tag
          (if lineClamps c then .clamped else .ok) (.lineSettings st (effectiveMs st.refreshMs (s.slotCount c.line)))))
        ∧ (0 < s.slotCount c.line → exec (.configureLine t tag c) s =
          .next ((((s.advance t).setLine c.line { y with refreshDue := true }).decideTurn c.line).answered 0x58#8 tag
            (if lineClamps c then .clamped else .ok) (.lineSettings st (effectiveMs st.refreshMs (s.slotCount c.line))))))
  ∧ (∀ (t : Nat) (tag : Byte) (c : LineReq) (s : State), s.admits tag = true → s.storeBusy = false → c.line < 16 →
    c.enabled = some false → (s.line c.line).settings.enabled = false →
      ∃ st : LineSettings, st = ⟨false, clamp 10 1000 c.refreshPeriod, clamp 1 15 c.routineMaxWait,
          clamp 20 5000 c.auditInterval⟩
        ∧ exec (.configureLine t tag c) s = .next (((s.advance t).setLine c.line
            { s.line c.line with settings := st, wait := min (s.line c.line).wait st.maxWait }).answered 0x58#8 tag
          (if lineClamps c then .clamped else .ok) (.lineSettings st (effectiveMs st.refreshMs (s.slotCount c.line)))))

/-- R149, R143: an accepted QUERY HEAD adds its entry at the tail and defers its reply. R144, R151: the end of a query frame
opens the reply window. R145, R146: the three ends of an exchange: the outcome is handed on, the turn ends, and a decision
follows. R146, R151, R15, R161: an exchange that was discarded, or abandoned by a RIG RESET, hands no outcome to supervision,
and its console entry is answered ABORTED; a HOME exchange discarded by an UNPATCH HEAD releases its count, and the dispatch
is run. An abandoned exchange ends at the last stop bit of its query frame, discarded or not. -/
def Obligations.QueryExchangeRunsToItsEnd : Prop :=
  (∀ (t : Nat) (tag : Byte) (h : Nat) (pr : Priority) (p : Placement) (q : Personality) (s : State), s.admits tag = true →
    h < 512 → s.placement h = some p → s.personality p.personality = some q → q.feedback = true →
    (s.line p.line).settings.enabled = true → (s.line p.line).queue.length < 8 →
      exec (.queryHead t tag h (some pr)) s = .next (((((s.advance t).setLine p.line { s.line p.line with
          queue := (s.line p.line).queue ++ [⟨h, .status, pr, .console tag⟩] }).decideTurn p.line).deferredTag
            tag)).startTransmit)
  ∧ (∀ (t : Nat) (l : Fin 16) (x : Exchange) (s : State), (s.line l).turn = .exchange x → x.phase = .sending →
    x.abandoned = false → exec (.queryFrameEnd t l) s =
      .next ((s.advance t).setLine l { s.line l with
        turn := .exchange { x with phase := .window (s.advance t).now, frame := [] } }).startTransmit)
  ∧ (∀ (t : Nat) (l : Fin 16) (x : Exchange) (w : Nat) (c : ReplyChars) (s : State), (s.line l).turn = .exchange x →
    x.phase = .window w → x.discard = .kept → x.abandoned = false →
      exec (.replyStartTimeout t l) s = .next ((((((s.advance t).handleNoReply x.entry.head x.entry.kind).answerQuery x.entry
        none)).endTurn l)).startTransmit
      ∧ exec (.replyShortTimeout t l) s = .next ((((((s.advance t).handleNoReply x.entry.head x.entry.kind).answerQuery x.entry
        none)).endTurn l)).startTransmit
      ∧ (c.header ≠ 0x72#8 ∨ c.stopBits = false ∨
          c.check ≠ c.flags + c.panHigh + c.panLow + c.tiltHigh + c.tiltLow + c.faults →
        exec (.replyFrameReceived t l c) s = .next ((((((s.advance t).handleNoReply x.entry.head x.entry.kind).answerQuery
          x.entry none)).endTurn l)).startTransmit)
      ∧ (c.header = 0x72#8 → c.stopBits = true →
          c.check = c.flags + c.panHigh + c.panLow + c.tiltHigh + c.tiltLow + c.faults → ∃ r : Reported,
            r = ⟨c.flags.getLsbD 0, c.panHigh.toNat * 256 + c.panLow.toNat, c.tiltHigh.toNat * 256 + c.tiltLow.toNat,
              ⟨c.faults.getLsbD 0, c.faults.getLsbD 1, c.faults.getLsbD 2⟩⟩
            ∧ exec (.replyFrameReceived t l c) s = .next ((((((s.advance t).handleReply x.entry.head x.entry.kind x.judge
              r).answerQuery x.entry (some r))).endTurn l)).startTransmit))
  ∧ (∀ (t : Nat) (l : Fin 16) (x : Exchange) (s : State), (s.line l).turn = .exchange x → ∃ aborted : State → State,
    (∀ tag, x.entry.origin = .console tag → ∀ u : State, aborted u = { u with link := { u.link with
      inFlight := u.link.inFlight.erase tag, replies := u.link.replies ++ [⟨0x59#8, tag, .aborted, .bare, false⟩] } })
    ∧ (x.entry.origin = .audit ∨ x.entry.origin = .supervision → ∀ u : State, aborted u = u)
    ∧ (x.phase = .sending → x.abandoned = true →
      exec (.queryFrameEnd t l) s = .next ((aborted (s.advance t)).endTurn l).startTransmit)
    ∧ (∀ w, x.phase = .window w → x.abandoned = false → x.discard ≠ .kept → ∃ v : State,
      (x.discard ≠ .unpatched true → v = s.advance t)
      ∧ (x.discard = .unpatched true → v = ({ s.advance t with supervision := { s.supervision with
          homingCount := s.supervision.homingCount - 1 } } : State).dispatch)
      ∧ exec (.replyStartTimeout t l) s = .next ((aborted v).endTurn l).startTransmit
      ∧ exec (.replyShortTimeout t l) s = .next ((aborted v).endTurn l).startTransmit
      ∧ ∀ c : ReplyChars, exec (.replyFrameReceived t l c) s = .next ((aborted v).endTurn l).startTransmit))

/-- R140, R141: the decision table of the turn arbiter. R139, R141, R142, R144, R138: the refresh claim; and what a decision
does for each grant of the table. A refresh frame: the slots built, refresh due cleared, the timer started with the effective
period, the snapshot replaced; the wait counter rises by 1 when it goes ahead of a query. An exchange: the oldest entry leaves
the queue, the wait counter becomes 0, the judge snapshot is taken from the last-sent snapshot and the settle timer, and the
query frame carries base slot, kind and the snapshot's values. -/
def Obligations.ArbiterFollowsItsTable : Prop :=
  (∀ (y : Line) (now slots : Nat),
    (y.turn ≠ .idle ∨ y.settings.enabled = false → y.grant now slots = .nothing)
    ∧ (y.turn = .idle → y.settings.enabled = true →
      (y.queue = [] → y.refreshDue = false → y.grant now slots = .nothing)
      ∧ (y.queue = [] → y.refreshDue = true → 0 < slots → y.grant now slots = .refresh false)
      ∧ (∀ e rest, y.queue = e :: rest → ∃ threshold,
          threshold = (if ∃ x ∈ y.queue, x.priority = .urgent then 1 else y.settings.maxWait)
          ∧ (y.claimed now = false → y.grant now slots = .query e rest)
          ∧ (y.claimed now = true → threshold ≤ y.wait → y.grant now slots = .query e rest)
          ∧ (y.claimed now = true → y.refreshDue = true → 0 < slots → y.wait < threshold →
              y.grant now slots = .refresh true)
          ∧ (y.claimed now = true → y.refreshDue = false → y.wait < threshold → y.grant now slots = .nothing))))
  ∧ ((∀ (y : Line) (now : Nat),
    y.claimed now = true ↔ y.refreshDue = true ∨ ∃ d, y.refreshTimer = some d ∧ d - now < 3464)
  ∧ (∀ refreshMs slots : Nat, effectiveMs refreshMs slots = max refreshMs ((156 + 44 * slots + 999) / 1000))
  ∧ ∀ (s : State) (l : Nat) (g : Grant), g = (s.line l).grant s.now (s.slotCount l) →
    (g = .nothing → s.decideTurn l = s)
    ∧ (∀ ahead : Bool, g = .refresh ahead → s.decideTurn l = s.setLine l { s.line l with
        turn := .frame (0x00#8 :: s.frameSlots l), refreshDue := false,
        refreshTimer := some (s.now + 1000 * effectiveMs (s.line l).settings.refreshMs (s.slotCount l)),
        snapshot := s.frameSnapshot l, wait := if ahead then (s.line l).wait + 1 else (s.line l).wait })
    ∧ (∀ e rest p, g = .query e rest → s.placement e.head = some p → ∃ (j : Judge) (values : List Byte),
      (j.settled = true ↔ ∃ m, s.motion e.head = some m ∧ m.settle = 500)
      ∧ ((∀ x ∈ (s.line l).snapshot, x.head ≠ e.head) → j.values = none ∧ values = [0#8, 0#8, 0#8, 0#8])
      ∧ (∀ x, (s.line l).snapshot.find? (fun y => decide (y.head = e.head)) = some x → j.values = some (x.pan, x.tilt)
        ∧ values = [BitVec.ofNat 8 (x.pan / 256), BitVec.ofNat 8 x.pan, BitVec.ofNat 8 (x.tilt / 256), BitVec.ofNat 8 x.tilt])
      ∧ s.decideTurn l = s.setLine l { s.line l with
        turn := .exchange ⟨e, j, [0x71#8, BitVec.ofNat 8 (p.base / 256), BitVec.ofNat 8 p.base,
          (match e.kind with | .status => 0x01#8 | .home => 0x02#8)] ++ values, .sending, .kept, false⟩
        queue := rest
        wait := 0 }))

/-- R139, R142: the refresh timer of an IDLE, enabled line with patched heads and no query runs out: a frame is built, the
snapshot replaced and the timer started again; its end makes the line IDLE. -/
def Obligations.RefreshExpirySendsAFrame : Prop :=
  ∀ (t : Nat) (l : Fin 16) (s : State),
    ((s.line l).refreshTimer ≠ none → (s.line l).turn = .idle → (s.line l).settings.enabled = true →
      (s.line l).queue = [] → 0 < s.slotCount l → exec (.refreshTimerExpiry t l) s =
        .next ((s.advance t).setLine l { s.line l with
          turn := .frame (0x00#8 :: s.frameSlots l), refreshDue := false,
          refreshTimer := some ((s.advance t).now + 1000 * effectiveMs (s.line l).settings.refreshMs (s.slotCount l)),
          snapshot := s.frameSnapshot l }).startTransmit)
    ∧ (∀ slots, (s.line l).turn = .frame slots → (s.line l).queue = [] → (s.line l).refreshDue = false →
      exec (.refreshFrameEnd t l) s = .next ((s.advance t).setLine l { s.line l with turn := .idle }).startTransmit)

/-- R157, R158, R159: what a clean, a drifted and a missing STATUS outcome do to an ACTIVE head whose last reply had no fault
flag. R156, R157, R161, R164: a reply. It is recorded, misses 0; fault flags that differ from those of the last reply send
FAULT, with the condition the head has when the reply has been handled. MOTOR makes a head FAULTED that is not, which ends a
homing or takes it from the re-home queue. A head FAULTED so or before is done with, but for a HOME reply, which releases its
count. Else a HOME reply makes it HOMING with a deadline of 20 s; a STATUS reply completes a homing when its homing flag is
clear, brings a LOST head back to ACTIVE, and is judged. `s1` is the state after the record and the FAULT notice, `s2` that
after MOTOR. The counts in a condition notice are those after the change (notes/assumptions/13.md). R158: drift judgement. Not
judged, a reply changes nothing; a clean one clears the strikes; a drifted one is a strike, to at most 2, and the second makes
an ACTIVE head DRIFTED, which then joins the re-home queue, with a dispatch, if its re-homing is automatic and its stage NONE.
R159, R161: a no reply is a miss, to at most 3; the third makes an ACTIVE or DRIFTED head LOST, strikes 0, and leaves the
condition of any other head. After a HOME query the stage then becomes NONE, the homing count falls by 1 and the dispatch is
run; the head is not put back in the re-home queue. -/
def Obligations.StatusOutcomesMoveTheCondition : Prop :=
  (∀ (s : State) (h : Nat) (j : Judge) (r : Reported) (pan tilt : Nat), (s.watch h).condition = .active →
    (s.watch h).flags = Faults.clear → r.faults = Faults.clear → r.homing = false → j.values = some (pan, tilt) →
    j.settled = true →
      (drifted (s.headPatch h).driftTolerance j r = false →
        (s.handleReply h .status j r).watch h =
          { s.watch h with lastReply := some ⟨r.pan, r.tilt, Faults.clear⟩, misses := 0, strikes := 0 })
      ∧ (drifted (s.headPatch h).driftTolerance j r = true → (s.watch h).strikes = 0 →
        (s.handleReply h .status j r).watch h =
          { s.watch h with lastReply := some ⟨r.pan, r.tilt, Faults.clear⟩, misses := 0, strikes := 1 })
      ∧ (drifted (s.headPatch h).driftTolerance j r = true → 1 ≤ (s.watch h).strikes →
        ((s.handleReply h .status j r).watch h).condition = .drifted
          ∧ ((s.handleReply h .status j r).watch h).strikes = 2)
      ∧ ((s.watch h).misses < 2 → (s.handleNoReply h .status).watch h = { s.watch h with misses := (s.watch h).misses + 1 })
      ∧ (2 ≤ (s.watch h).misses →
        (s.handleNoReply h .status).watch h = { s.watch h with misses := 3, condition := .lost, strikes := 0 }))
  ∧ (∀ (s : State) (h : Nat) (kind : QueryKind) (j : Judge) (r : Reported), ∃ (before : Faults) (w : Watch) (s1 s2 u : State),
    ((s.watch h).lastReply = none → before = ⟨false, false, false⟩)
    ∧ (∀ x, (s.watch h).lastReply = some x → before = x.faults)
    ∧ w = { s.watch h with lastReply := some ⟨r.pan, r.tilt, r.faults⟩, misses := 0 }
    ∧ u = s.handleReply h kind j r
    ∧ (r.faults = before → s1 = s.setWatch h w)
    ∧ (r.faults ≠ before → s1 = (s.setWatch h w).notify (.fault h before r.faults (u.watch h).condition))
    ∧ (r.faults.motor = false ∨ w.condition = .faulted → s2 = s1)
    ∧ (r.faults.motor = true → w.condition ≠ .faulted →
      (w.stage = .none ∨ w.stage = .sent → s2 = (s1.setWatch h { w with condition := .faulted, strikes := 0 }).notify
        (.headCondition h w.condition .faulted .motor 0 0))
      ∧ (w.stage = .queued → s2 = (({ s1 with supervision := { s1.supervision with
          rehomeQueue := s1.supervision.rehomeQueue.erase h } } : State).setWatch h
            { w with condition := .faulted, strikes := 0, stage := .none }).notify
          (.headCondition h w.condition .faulted .motor 0 0))
      ∧ (w.stage = .homing → ∃ v : State, v = (s1.setWatch h
            { w with condition := .faulted, strikes := 0, stage := .none, deadline := none }).notify
          (.headCondition h w.condition .faulted .motor 0 0)
        ∧ s2 = ({ v with supervision := { v.supervision with
          homingCount := v.supervision.homingCount - 1 } } : State).dispatch))
    ∧ (r.faults.motor = true ∨ w.condition = .faulted →
      (kind = .status → u = s2)
      ∧ (kind = .home → ∃ v : State, v = s2.setWatch h { s2.watch h with stage := .none }
        ∧ u = ({ v with supervision := { v.supervision with
          homingCount := v.supervision.homingCount - 1 } } : State).dispatch))
    ∧ (r.faults.motor = false → w.condition ≠ .faulted → kind = .home → ∃ v : State,
      v = s1.setWatch h { w with
        condition := .homing, strikes := 0, stage := .homing, deadline := some (s.now + 20000000) }
      ∧ (w.condition = .homing → u = v)
      ∧ (w.condition ≠ .homing → u = v.notify (.headCondition h w.condition .homing .homingStart 0 0)))
    ∧ (r.faults.motor = false → kind = .status →
      (w.condition = .homing → r.homing = true → u = s1)
      ∧ (w.condition = .homing → r.homing = false → ∃ v : State, v = (s1.setWatch h
            { w with condition := .active, strikes := 0, stage := .none, deadline := none }).notify
          (.headCondition h .homing .active .homingDone 0 0)
        ∧ u = ({ v with supervision := { v.supervision with
          homingCount := v.supervision.homingCount - 1 } } : State).dispatch)
      ∧ (w.condition = .lost → u = ((s1.setWatch h { w with condition := .active }).notify
          (.headCondition h .lost .active .reply w.strikes 0)).judgeDrift h j r)
      ∧ (w.condition = .active ∨ w.condition = .drifted → u = s1.judgeDrift h j r)))
  ∧ (∀ (s : State) (h : Nat) (j : Judge) (r : Reported),
    (r.homing = true ∨ j.values = none ∨ j.settled = false → s.judgeDrift h j r = s)
    ∧ ∀ pan tilt tolerance : Nat, r.homing = false → j.values = some (pan, tilt) → j.settled = true →
      tolerance = (s.headPatch h).driftTolerance →
      (r.pan ≤ pan + tolerance → pan ≤ r.pan + tolerance → r.tilt ≤ tilt + tolerance → tilt ≤ r.tilt + tolerance →
        s.judgeDrift h j r = s.setWatch h { s.watch h with strikes := 0 })
      ∧ (pan + tolerance < r.pan ∨ r.pan + tolerance < pan ∨ tilt + tolerance < r.tilt ∨ r.tilt + tolerance < tilt →
        ((s.watch h).strikes = 0 ∨ (s.watch h).condition ≠ .active →
          s.judgeDrift h j r = s.setWatch h { s.watch h with strikes := min 2 ((s.watch h).strikes + 1) })
        ∧ (1 ≤ (s.watch h).strikes → (s.watch h).condition = .active → ∃ v : State,
          v = (s.setWatch h { s.watch h with strikes := 2, condition := .drifted }).notify
            (.headCondition h .active .drifted .drift 2 (s.watch h).misses)
          ∧ ((s.headPatch h).autoRehome = false ∨ (s.watch h).stage ≠ .none → s.judgeDrift h j r = v)
          ∧ ((s.headPatch h).autoRehome = true → (s.watch h).stage = .none → s.judgeDrift h j r =
            ({ v.setWatch h { s.watch h with strikes := 2, condition := .drifted, stage := .queued } with
              supervision := { (v.setWatch h { s.watch h with
                  strikes := 2, condition := .drifted, stage := .queued }).supervision with
                rehomeQueue := s.supervision.rehomeQueue ++ [h] } } : State).dispatch))))
  ∧ (∀ (s : State) (h : Nat), ∃ v : State, s.handleNoReply h .status = v
    ∧ ((s.watch h).misses < 2 ∨ (s.watch h).condition = .lost ∨ (s.watch h).condition = .homing
        ∨ (s.watch h).condition = .faulted →
      v = s.setWatch h { s.watch h with misses := min 3 ((s.watch h).misses + 1) })
    ∧ (2 ≤ (s.watch h).misses → (s.watch h).condition = .active ∨ (s.watch h).condition = .drifted →
      v = (s.setWatch h { s.watch h with misses := 3, condition := .lost, strikes := 0 }).notify
        (.headCondition h (s.watch h).condition .lost .misses 0 3))
    ∧ ∃ x : State, x = v.setWatch h { v.watch h with stage := .none }
      ∧ s.handleNoReply h .home = ({ x with supervision := { x.supervision with
        homingCount := x.supervision.homingCount - 1 } } : State).dispatch)

/-- R147, R154: an audit timer's expiry reloads it and moves the cursor to the head found; with no head it does no more. That
the expiry is taken at its word is log 2, that it reloads from the present reading log 18. R154, R147: the audit asks the line
for a ROUTINE STATUS entry of the head found, unless one for that head is queued; the line adds it at the tail, which is a
decision (R143), or refuses it and the head is skipped. The head found is the first above the cursor, then wrapping to the
lowest, of those on the line that have feedback and are not HOMING. R155, R160: the supervision poll with no head HOMING and
no head waiting does no more than run on. R155: the poll asks the line of a HOMING head, the only one, for an URGENT STATUS
entry. R155, R160: the poll asks for every HOMING head, ascending, and then runs the dispatch. For one head, the line is asked
for an URGENT STATUS entry unless an entry for the head is queued; a line that is disabled or full refuses, and nothing is
held; accepted, the entry stands at the tail, which is a decision (R143). -/
def Obligations.AuditAndPollAskForStatus : Prop :=
  (∀ (t : Nat) (l : Fin 16) (s : State), (s.line l).auditTimer ≠ none →
    (((s.headsOn l).filter s.auditable) = [] → exec (.auditTimerExpiry t l) s =
      .next ((s.advance t).setLine l { s.line l with
        auditTimer := some ((s.advance t).now + 1000 * (s.line l).settings.auditMs) }).startTransmit)
    ∧ (∀ h, s.nextAudit l = some h → ∃ v : State, exec (.auditTimerExpiry t l) s = .next v.startTransmit
        ∧ (v.line l).auditCursor = some h
        ∧ (v.line l).auditTimer = some ((s.advance t).now + 1000 * (s.line l).settings.auditMs)
        ∧ (∀ k, k ≠ l.val → v.line k = s.line k) ∧ v.supervision = s.supervision ∧ v.patch = s.patch ∧ v.link = s.link))
  ∧ (∀ (t : Nat) (l : Fin 16) (h : Nat) (s : State),
    ((s.line l).auditTimer ≠ none → s.nextAudit l = some h → ∃ y : Line,
      y = { s.line l with
        auditTimer := some ((s.advance t).now + 1000 * (s.line l).settings.auditMs), auditCursor := some h }
      ∧ ((∃ e ∈ (s.line l).queue, e.head = h) ∨ (s.line l).accepts = false →
        exec (.auditTimerExpiry t l) s = .next ((s.advance t).setLine l y).startTransmit)
      ∧ ((∀ e ∈ (s.line l).queue, e.head ≠ h) → (s.line l).accepts = true → exec (.auditTimerExpiry t l) s =
        .next (((s.advance t).setLine l { y with
          queue := (s.line l).queue ++ [⟨h, .status, .routine, .audit⟩] }).decideTurn l).startTransmit))
    ∧ (∀ k, s.auditable k = true ↔ (s.watch k).condition ≠ .homing ∧ ∃ q, s.personalityOf k = some q ∧ q.feedback = true)
    ∧ ((s.headsOn l).Pairwise (· < ·) → h ∈ s.headsOn l → s.auditable h = true →
      ((s.line l).auditCursor = none → (∀ k ∈ s.headsOn l, s.auditable k = true → h ≤ k) → s.nextAudit l = some h)
      ∧ (∀ c, (s.line l).auditCursor = some c → c < h → (∀ k ∈ s.headsOn l, s.auditable k = true → c < k → h ≤ k) →
        s.nextAudit l = some h)
      ∧ (∀ c, (s.line l).auditCursor = some c → (∀ k ∈ s.headsOn l, s.auditable k = true → k ≤ c ∧ h ≤ k) →
        s.nextAudit l = some h)))
  ∧ (∀ (t : Nat) (s : State), (∀ h, (s.watch h).condition ≠ .homing) → s.supervision.rehomeQueue = [] →
    exec (.supervisionPoll t) s = .next ({ s.advance t with
      supervision := { s.supervision with pollTimer := (s.advance t).now + 250000 } }).startTransmit)
  ∧ (∀ (t : Nat) (h : Nat) (p : Placement) (s : State), (s.watch h).condition = .homing →
    (∀ k, k ≠ h → (s.watch k).condition ≠ .homing) → s.supervision.rehomeQueue = [] → h < 512 → s.placement h = some p →
    (s.line p.line).accepts = true →
    (s.line p.line).hasEntry h = false →
      exec (.supervisionPoll t) s = .next (((({ s.advance t with
        supervision := { s.supervision with pollTimer := (s.advance t).now + 250000 } } : State).setLine p.line
          { s.line p.line with queue := (s.line p.line).queue ++ [⟨h, .status, .urgent, .supervision⟩] }).decideTurn
            p.line)).startTransmit)
  ∧ ((∀ (t : Nat) (s : State), exec (.supervisionPoll t) s =
    .next ((((List.range 512).filter (fun h => decide ((s.watch h).condition = .homing))).foldl State.pollHead { s.advance t with
      supervision := { s.supervision with pollTimer := (s.advance t).now + 250000 } }).dispatch).startTransmit)
  ∧ ∀ (s : State) (h : Nat) (p : Placement), (s.watch h).condition = .homing → s.placement h = some p →
    ((∃ e ∈ (s.line p.line).queue, e.head = h) ∨ (s.line p.line).settings.enabled = false
        ∨ 8 ≤ (s.line p.line).queue.length → s.pollHead h = s)
    ∧ ((∀ e ∈ (s.line p.line).queue, e.head ≠ h) → (s.line p.line).settings.enabled = true →
      (s.line p.line).queue.length < 8 → s.pollHead h = (s.setLine p.line { s.line p.line with
        queue := (s.line p.line).queue ++ [⟨h, .status, .urgent, .supervision⟩] }).decideTurn p.line))

/-- R160: the re-home dispatch walks the queue from the oldest entry. At the limit nothing is asked; below it the head's line
is asked for an URGENT HOME entry: refused, the head keeps its place; accepted, it leaves the queue, its stage becomes SENT
and the homing count rises. R160, R162: REHOME HEAD below the limit, with no other head waiting and a line that takes the
entry: the HOME query is sent. -/
def Obligations.DispatchSendsHomeQueries : Prop :=
  ((∀ s : State, s.dispatch = s.supervision.rehomeQueue.foldl State.dispatchHead s)
  ∧ (∀ (s : State) (h : Nat), s.supervision.homingLimit ≤ s.supervision.homingCount → s.dispatchHead h = s)
  ∧ ∀ (s : State) (h : Nat) (p : Placement), s.supervision.homingCount < s.supervision.homingLimit → s.placement h = some p →
    ((s.line p.line).settings.enabled = false ∨ 8 ≤ (s.line p.line).queue.length → s.dispatchHead h = s)
    ∧ ((s.line p.line).settings.enabled = true → (s.line p.line).queue.length < 8 → ∃ w v : State,
      w = (s.setLine p.line { s.line p.line with
          queue := (s.line p.line).queue ++ [⟨h, .home, .urgent, .supervision⟩] }).decideTurn p.line
      ∧ v = w.setWatch h { s.watch h with stage := .sent }
      ∧ s.dispatchHead h = { v with supervision := { v.supervision with
          rehomeQueue := s.supervision.rehomeQueue.erase h, homingCount := s.supervision.homingCount + 1 } }))
  ∧ (∀ (t : Nat) (tag : Byte) (h : Nat) (p : Placement) (q : Personality) (s : State), s.admits tag = true → s.loading = false →
    h < 512 → s.placement h = some p → s.personality p.personality = some q → q.feedback = true →
    (s.watch h).condition ≠ .faulted → (s.watch h).stage = .none → s.supervision.rehomeQueue = [] →
    s.supervision.homingCount < s.supervision.homingLimit → (s.line p.line).settings.enabled = true →
    (s.line p.line).queue.length < 8 →
      ∃ v : State, v = ((s.advance t).joinRehome h).dispatchHead h
        ∧ exec (.rehomeHead t tag h) s = .next (v.answered 0x5C#8 tag .ok (.rehome none))
        ∧ v.supervision.rehomeQueue = [] ∧ (v.watch h).stage = .sent ∧ (v.watch h).condition = (s.watch h).condition
        ∧ v.supervision.homingCount = s.supervision.homingCount + 1)

/-- R161: a HOMING head's deadline expires: FAULTED, its count released, and the dispatch is run. R160, R162: an accepted
REHOME HEAD joins the queue and the dispatch is run; with the count at the limit the head waits. R163: CLEAR CONDITION of a
head that is not in a re-home, and SET AUDIT. R163, R160: CLEAR CONDITION: its refusals in order, each of its status alone
(notes/assumptions/14.md); a head whose stage is QUEUED leaves the re-home queue; one whose stage is HOMING ends its homing,
its deadline discarded, the homing count 1 lower and the dispatch run. A condition other than ACTIVE is told by
HEAD_CONDITION, with the counts after the change (notes/assumptions/13.md). R163, R160: SET AUDIT with heads waiting or not: a
changed limit runs the dispatch; the reply gives the limit and the homing count after it. That a lowered limit runs it too,
and that the count is the one after it, is the model's reading (notes/assumptions/16.md). -/
def Obligations.RehomeAndConditionRequests : Prop :=
  (∀ (t : Nat) (h : Fin 512) (s : State), (s.watch h).condition = .homing → (s.watch h).deadline ≠ none →
    exec (.homingDeadlineExpiry t h) s =
      .next (((((s.advance t).setWatch h { s.watch h with condition := .faulted, stage := .none, deadline := none }).notify
        (.headCondition h .homing .faulted .deadline (s.watch h).strikes (s.watch h).misses)).lowerHoming
          1).dispatch).startTransmit)
  ∧ (∀ (t : Nat) (tag : Byte) (h : Nat) (q : Personality) (s : State), s.admits tag = true → s.loading = false → h < 512 →
    s.personalityOf h = some q → q.feedback = true → (s.watch h).condition ≠ .faulted → (s.watch h).stage = .none →
      ∃ v : State, v = ((s.advance t).joinRehome h).dispatch
        ∧ exec (.rehomeHead t tag h) s = .next (v.answered 0x5C#8 tag .ok (.rehome (placeIn v.supervision.rehomeQueue h)))
        ∧ (s.supervision.homingLimit ≤ s.supervision.homingCount →
            v.supervision.rehomeQueue = s.supervision.rehomeQueue ++ [h] ∧ (v.watch h).stage = .queued
              ∧ v.supervision.homingCount = s.supervision.homingCount))
  ∧ (∀ (t : Nat) (tag : Byte) (s : State), s.admits tag = true →
    (∀ h < 512, s.loading = false → s.patched h = true → (s.watch h).stage = .none → (s.watch h).condition = .active →
      exec (.clearCondition t tag h) s = .next (((s.advance t).setWatch h
        ⟨.active, 0, 0, (s.watch h).lastReply, .none, none⟩).answered 0x5D#8 tag .ok (.conditionBefore .active)))
    ∧ (∀ h < 512, s.loading = false → s.patched h = true → (s.watch h).stage = .none → (s.watch h).condition ≠ .active →
      exec (.clearCondition t tag h) s = .next ((((s.advance t).setWatch h
        ⟨.active, 0, 0, (s.watch h).lastReply, .none, none⟩).notify
          (.headCondition h (s.watch h).condition .active .clear 0 0)).answered 0x5D#8 tag .ok
            (.conditionBefore (s.watch h).condition)))
    ∧ (∀ v : Int, s.supervision.rehomeQueue = [] → exec (.setAudit t tag v) s =
      .next (({ s.advance t with supervision := { s.supervision with
        homingLimit := max (clamp 1 16 v) s.supervision.homingCount } }).answered 0x5E#8 tag
          (if v < 1 ∨ 16 < v ∨ clamp 1 16 v < s.supervision.homingCount then .clamped else .ok)
          (.audit (max (clamp 1 16 v) s.supervision.homingCount) s.supervision.homingCount))))
  ∧ (∀ (t : Nat) (tag : Byte) (h : Nat) (s : State), s.admits tag = true →
    (s.loading = true → exec (.clearCondition t tag h) s = .next ((s.advance t).answered 0x5D#8 tag .storeBusy .bare))
    ∧ (s.loading = false → 512 ≤ h →
      exec (.clearCondition t tag h) s = .next ((s.advance t).answered 0x5D#8 tag .badField .bare))
    ∧ (s.loading = false → h < 512 → s.patched h = false →
      exec (.clearCondition t tag h) s = .next ((s.advance t).answered 0x5D#8 tag .notFound .bare))
    ∧ (s.loading = false → h < 512 → s.patched h = true → (s.watch h).stage = .sent →
      exec (.clearCondition t tag h) s = .next ((s.advance t).answered 0x5D#8 tag .wrongState .bare))
    ∧ (s.loading = false → h < 512 → s.patched h = true → ∃ (w : Watch) (told : State → State),
      w = ⟨.active, 0, 0, (s.watch h).lastReply, .none, none⟩
      ∧ ((s.watch h).condition = .active → ∀ u, told u = u)
      ∧ ((s.watch h).condition ≠ .active → ∀ u : State,
        told u = u.notify (.headCondition h (s.watch h).condition .active .clear 0 0))
      ∧ ((s.watch h).stage = .queued → exec (.clearCondition t tag h) s =
        .next ((told (({ s.advance t with supervision := { s.supervision with
            rehomeQueue := s.supervision.rehomeQueue.erase h } } : State).setWatch h w)).answered 0x5D#8 tag .ok
          (.conditionBefore (s.watch h).condition)))
      ∧ ((s.watch h).stage = .homing → ∃ v : State, v = told ((s.advance t).setWatch h w)
        ∧ exec (.clearCondition t tag h) s = .next ((({ v with supervision := { v.supervision with
            homingCount := s.supervision.homingCount - 1 } } : State).dispatch).answered 0x5D#8 tag .ok
          (.conditionBefore (s.watch h).condition)))))
  ∧ (∀ (t : Nat) (tag : Byte) (v : Int) (s : State), s.admits tag = true → ∃ (limit : Nat) (u w : State),
    limit = max (clamp 1 16 v) s.supervision.homingCount
    ∧ u = { s.advance t with supervision := { s.supervision with homingLimit := limit } }
    ∧ (limit = s.supervision.homingLimit → w = u) ∧ (limit ≠ s.supervision.homingLimit → w = u.dispatch)
    ∧ exec (.setAudit t tag v) s = .next (w.answered 0x5E#8 tag
      (if v < 1 ∨ 16 < v ∨ clamp 1 16 v < s.supervision.homingCount then .clamped else .ok)
      (.audit limit w.supervision.homingCount)))
end

