-- ==== Sys2Proof/Laws/Table.lean ====
section
/-! SUPPORT. What reading a table gives after each way of making one, and that every way keeps the canonical form. -/

namespace Sys2Proof.Table

variable {α : Type}

@[simp] theorem get_nil (d : α) (k : Nat) : get d [] k = d := rfl

theorem get_insert (d : α) (m : Table α) (k j : Nat) (v : α) (h : k ∉ keys m) :
    get d (insert k v m) j = if j = k then v else get d m j := by
  induction m with
  | nil => by_cases e : j = k <;> simp [insert, get, e, eq_comm (a := k)]
  | cons x xs ih =>
    obtain ⟨i, w⟩ := x
    simp only [keys, List.map_cons, List.mem_cons, not_or] at h ih
    by_cases c : k < i
    · by_cases e : j = k <;> simp [insert, get, c, e, eq_comm (a := k)]
    · simp only [insert, c, if_false, get]
      by_cases ei : i = j
      · subst ei; simp [Ne.symm h.1]
      · simp [ei, ih h.2]

theorem not_mem_keys_erase (m : Table α) (k : Nat) : k ∉ keys (erase m k) := by
  simp [keys, erase]

theorem get_erase (d : α) (m : Table α) (k j : Nat) :
    get d (erase m k) j = if j = k then d else get d m j := by
  induction m with
  | nil => simp [erase]
  | cons x xs ih =>
    obtain ⟨i, w⟩ := x
    simp only [erase] at ih ⊢
    by_cases e : i = k
    · subst e
      simp only [bne_self_eq_false, Bool.false_eq_true, not_false_eq_true, List.filter_cons_of_neg, ih, get]
      by_cases ej : i = j
      · simp [ej]
      · simp [ej]
    · have : ((i, w).1 != k) = true := by simpa using e
      rw [List.filter_cons_of_pos (by simpa using e)]
      simp only [get, ih]
      by_cases ej : i = j
      · subst ej; simp [e]
      · simp [ej]

/-- Reading a record after one was replaced. -/
@[simp] theorem get_put [DecidableEq α] (d : α) (m : Table α) (k j : Nat) (v : α) :
    get d (put d m k v) j = if j = k then v else get d m j := by
  unfold put
  split
  · next h => rw [get_erase]; simp [h]
  · rw [get_insert _ _ _ _ _ (not_mem_keys_erase m k), get_erase]
    by_cases e : j = k <;> simp [e]

/-- A record that is not listed reads as the default. -/
theorem erase_insert (m : Table α) (k : Nat) (v : α) : erase (insert k v m) k = erase m k := by
  unfold erase
  induction m with
  | nil => simp [insert]
  | cons e m ih =>
    obtain ⟨j, w⟩ := e
    unfold insert
    split
    · simp
    · rw [List.filter_cons, List.filter_cons, ih]

theorem erase_erase (m : Table α) (k : Nat) : erase (erase m k) k = erase m k := by
  simp [erase]

/-- A record replaced twice is replaced by the last. -/
@[simp] theorem put_put [DecidableEq α] (d : α) (m : Table α) (k : Nat) (v w : α) :
    put d (put d m k v) k w = put d m k w := by
  have h : erase (put d m k v) k = erase m k := by
    unfold put
    split
    · exact erase_erase m k
    · rw [erase_insert, erase_erase]
  rw [put, h]
  rfl

theorem get_of_not_mem (d : α) (m : Table α) (k : Nat) (h : k ∉ keys m) : get d m k = d := by
  induction m with
  | nil => rfl
  | cons x xs ih =>
    simp only [keys, List.map_cons, List.mem_cons, not_or] at h ih
    simp [get, Ne.symm h.1, ih h.2]

/-- A record other than the default is listed. -/
theorem mem_keys_of_get_ne (d : α) (m : Table α) (k : Nat) (h : get d m k ≠ d) : k ∈ keys m := by
  by_contra c
  exact h (get_of_not_mem d m k c)

theorem mem_insert (m : Table α) (k : Nat) (v : α) (e : Nat × α) :
    e ∈ insert k v m ↔ e = (k, v) ∨ e ∈ m := by
  induction m with
  | nil => simp [insert]
  | cons x xs ih =>
    obtain ⟨i, w⟩ := x
    simp only [insert]
    split
    · simp
    · simp only [List.mem_cons, ih]; tauto

theorem pairwise_insert (m : Table α) (k : Nat) (v : α) (hk : k ∉ keys m)
    (hp : m.Pairwise (fun a b => a.1 < b.1)) : (insert k v m).Pairwise (fun a b => a.1 < b.1) := by
  induction m with
  | nil => simp [insert]
  | cons x xs ih =>
    obtain ⟨i, w⟩ := x
    simp only [keys, List.map_cons, List.mem_cons, not_or] at hk
    rw [List.pairwise_cons] at hp
    simp only [insert]
    split
    · next c =>
      refine List.Pairwise.cons ?_ (List.Pairwise.cons hp.1 hp.2)
      intro b hb
      rcases List.mem_cons.mp hb with rfl | hb
      · exact c
      · exact lt_trans c (hp.1 b hb)
    · next c =>
      refine List.Pairwise.cons ?_ (ih hk.2 hp.2)
      intro b hb
      rcases (mem_insert xs k v b).mp hb with rfl | hb
      · exact lt_of_le_of_ne (Nat.le_of_not_lt c) (Ne.symm hk.1)
      · exact hp.1 b hb

theorem canonical_iff [DecidableEq α] (d : α) (n : Nat) (m : Table α) :
    canonical d n m = true ↔ m.Pairwise (fun a b => a.1 < b.1) ∧ ∀ e ∈ m, e.1 < n ∧ e.2 ≠ d := by
  simp [canonical]

@[simp] theorem canonical_nil [DecidableEq α] (d : α) (n : Nat) : canonical d n ([] : Table α) = true := by
  simp [canonical]

theorem canonical_erase [DecidableEq α] (d : α) (n : Nat) (m : Table α) (k : Nat)
    (h : canonical d n m = true) : canonical d n (erase m k) = true := by
  rw [canonical_iff] at h ⊢
  exact ⟨h.1.filter _, fun e he => h.2 e (List.mem_of_mem_filter he)⟩

/-- Replacing a record in range keeps the canonical form. -/
theorem canonical_put [DecidableEq α] (d : α) (n : Nat) (m : Table α) (k : Nat) (v : α)
    (h : canonical d n m = true) (hk : k < n) : canonical d n (put d m k v) = true := by
  unfold put
  split
  · exact canonical_erase d n m k h
  · next hv =>
    have he := (canonical_iff d n (erase m k)).mp (canonical_erase d n m k h)
    rw [canonical_iff]
    refine ⟨pairwise_insert _ _ _ (not_mem_keys_erase m k) he.1, fun e hm => ?_⟩
    rcases (mem_insert _ _ _ _).mp hm with rfl | hm
    · exact ⟨hk, hv⟩
    · exact he.2 e hm

/-- The numbers listed by a canonical table are in range. -/
theorem canonical_keys_lt [DecidableEq α] (d : α) (n : Nat) (m : Table α) (k : Nat)
    (h : canonical d n m = true) (hk : k ∈ keys m) : k < n := by
  rw [canonical_iff] at h
  simp only [keys, List.mem_map] at hk
  obtain ⟨e, he, rfl⟩ := hk
  exact (h.2 e he).1

/-- Two canonical tables that read alike are the same table. -/
theorem canonical_ext [DecidableEq α] (d : α) (n : Nat) (a b : Table α) (ha : canonical d n a = true)
    (hb : canonical d n b = true) (h : ∀ k, get d a k = get d b k) : a = b := by
  rw [canonical_iff] at ha hb
  have get_head : ∀ (i : Nat) (v : α) (t : Table α), get d ((i, v) :: t) i = v := by simp [get]
  have low : ∀ (t : Table α) (k : Nat), (∀ e ∈ t, k < e.1) → get d t k = d := fun t k hk =>
    get_of_not_mem d t k (by
      intro c; simp only [keys, List.mem_map] at c
      obtain ⟨e, he, rfl⟩ := c; exact lt_irrefl _ (hk e he))
  induction a generalizing b with
  | nil =>
    cases b with
    | nil => rfl
    | cons y ys =>
      obtain ⟨j, w⟩ := y
      have := h j; rw [get_head, get_nil] at this
      exact absurd this.symm (hb.2 (j, w) (by simp)).2
  | cons x xs ih =>
    obtain ⟨i, v⟩ := x
    cases b with
    | nil =>
      have := h i; rw [get_head, get_nil] at this
      exact absurd this (ha.2 (i, v) (by simp)).2
    | cons y ys =>
      obtain ⟨j, w⟩ := y
      rw [List.pairwise_cons] at ha hb
      have hij : i = j := by
        rcases lt_trichotomy i j with c | c | c
        · exfalso
          have e1 := h i
          rw [get_head, low ((j, w) :: ys) i (by
            intro e he; rcases List.mem_cons.mp he with rfl | he
            · exact c
            · exact lt_trans c (hb.1.1 e he))] at e1
          exact (ha.2 (i, v) (by simp)).2 e1
        · exact c
        · exfalso
          have e1 := h j
          rw [get_head, low ((i, v) :: xs) j (by
            intro e he; rcases List.mem_cons.mp he with rfl | he
            · exact c
            · exact lt_trans c (ha.1.1 e he))] at e1
          exact (hb.2 (j, w) (by simp)).2 e1.symm
      subst hij
      have hv : v = w := by simpa [get_head] using h i
      subst hv
      have : xs = ys := by
        refine ih ys ⟨ha.1.2, fun e he => ha.2 e (by simp [he])⟩ ⟨hb.1.2, fun e he => hb.2 e (by simp [he])⟩ ?_
        intro k
        by_cases c : i = k
        · subst c; rw [low xs i ha.1.1, low ys i hb.1.1]
        · simpa [get, c] using h k
      rw [this]

theorem get_filterMap (d : α) [DecidableEq α] (f : Nat → α) (l : List Nat) (k : Nat) :
    get d ((l.map (fun i => (i, f i))).filter (fun e => !decide (e.2 = d))) k = if k ∈ l then f k else d := by
  induction l with
  | nil => simp
  | cons i is ih =>
    rw [List.map_cons]
    by_cases c : f i = d
    · rw [List.filter_cons_of_neg (by simp [c]), ih]
      by_cases e : k = i
      · subst e; simp [c]
      · simp [e]
    · rw [List.filter_cons_of_pos (by simp [c])]
      simp only [get, ih]
      by_cases e : i = k
      · subst e; simp
      · simp [e, Ne.symm e]

/-- A table built of a function reads as the function on its range. -/
@[simp] theorem get_build [DecidableEq α] (d : α) (n : Nat) (f : Nat → α) (k : Nat) :
    get d (build d n f) k = if k < n then f k else d := by
  simp [build, get_filterMap]

theorem canonical_build [DecidableEq α] (d : α) (n : Nat) (f : Nat → α) : canonical d n (build d n f) = true := by
  rw [canonical_iff]
  refine ⟨?_, ?_⟩
  · refine List.Pairwise.filter _ ?_
    rw [List.pairwise_map]
    exact List.pairwise_lt_range
  · intro e he
    simp only [build, List.mem_filter, List.mem_map, List.mem_range, Bool.not_eq_eq_eq_not, Bool.not_true,
      decide_eq_false_iff_not] at he
    obtain ⟨⟨k, hk, rfl⟩, hd⟩ := he
    exact ⟨hk, hd⟩

end Sys2Proof.Table
end

