-- ==== Sys2Proof/Laws/State.lean ====
section
/-! SUPPORT. What each named update of the state leaves as it was, field by field and read by read, and what a record reads as
after one was replaced. -/

namespace Sys2Proof.Machine

open Sys2Proof

variable (s : State)

@[simp] theorem advance_fields (t : Nat) :
    (s.advance t).startUp = s.startUp ∧ (s.advance t).link = s.link ∧ (s.advance t).store = s.store ∧
    (s.advance t).patch = s.patch ∧ (s.advance t).cues = s.cues ∧ (s.advance t).playback = s.playback ∧
    (s.advance t).merge = s.merge ∧ (s.advance t).limiter = s.limiter ∧ (s.advance t).zones = s.zones ∧
    (s.advance t).effects = s.effects ∧ (s.advance t).inputs = s.inputs ∧ (s.advance t).lines = s.lines ∧
    (s.advance t).supervision = s.supervision ∧ (s.advance t).pending = s.pending :=
  ⟨rfl, rfl, rfl, rfl, rfl, rfl, rfl, rfl, rfl, rfl, rfl, rfl, rfl, rfl⟩

@[simp] theorem advance_reads (t : Nat) :
    (∀ p, (s.advance t).personality p = s.personality p) ∧
    (∀ h, (s.advance t).headPatch h = s.headPatch h) ∧ (∀ h, (s.advance t).placement h = s.placement h) ∧
    (∀ h, (s.advance t).patched h = s.patched h) ∧
    (∀ h, (s.advance t).personalityOf h = s.personalityOf h) ∧ (∀ g, (s.advance t).group g = s.group g) ∧
    (∀ n, (s.advance t).slotCount n = s.slotCount n) ∧ (∀ n, (s.advance t).headsOn n = s.headsOn n) ∧
    (∀ h, (s.advance t).lastSlot h = s.lastSlot h) ∧ (s.advance t).patchedHeads = s.patchedHeads ∧
    (∀ n, (s.advance t).list n = s.list n) ∧ (s.advance t).freeCues = s.freeCues ∧
    (s.advance t).freeEntries = s.freeEntries ∧ (∀ k, (s.advance t).layer k = s.layer k) ∧
    (s.advance t).freeSlots = s.freeSlots ∧ (∀ h, (s.advance t).motion h = s.motion h) ∧
    (∀ z, (s.advance t).zone z = s.zone z) ∧ (∀ g, (s.advance t).generator g = s.generator g) ∧
    (∀ n, (s.advance t).trigger n = s.trigger n) ∧ (∀ n, (s.advance t).line n = s.line n) ∧
    (∀ h, (s.advance t).watch h = s.watch h) ∧ (s.advance t).storeBusy = s.storeBusy ∧
    (s.advance t).loading = s.loading ∧ (s.advance t).showTime = s.showTime ∧
    (s.advance t).immediateHeld = s.immediateHeld ∧ (∀ tag, (s.advance t).admits tag = s.admits tag) :=
  ⟨fun _ => rfl, fun _ => rfl, fun _ => rfl, fun _ => rfl, fun _ => rfl, fun _ => rfl, fun _ => rfl,
    fun _ => rfl, fun _ => rfl, rfl, fun _ => rfl, rfl, rfl, fun _ => rfl, rfl, fun _ => rfl,
    fun _ => rfl, fun _ => rfl, fun _ => rfl, fun _ => rfl, fun _ => rfl, rfl, rfl, rfl, rfl,
    fun _ => rfl⟩

@[simp] theorem setPersonality_fields (i : Nat) (v : Personality) :
    (s.setPersonality i v).now = s.now ∧ (s.setPersonality i v).startUp = s.startUp ∧
    (s.setPersonality i v).link = s.link ∧ (s.setPersonality i v).store = s.store ∧
    (s.setPersonality i v).cues = s.cues ∧ (s.setPersonality i v).playback = s.playback ∧
    (s.setPersonality i v).merge = s.merge ∧ (s.setPersonality i v).limiter = s.limiter ∧
    (s.setPersonality i v).zones = s.zones ∧ (s.setPersonality i v).effects = s.effects ∧
    (s.setPersonality i v).inputs = s.inputs ∧ (s.setPersonality i v).lines = s.lines ∧
    (s.setPersonality i v).supervision = s.supervision ∧ (s.setPersonality i v).pending = s.pending :=
  ⟨rfl, rfl, rfl, rfl, rfl, rfl, rfl, rfl, rfl, rfl, rfl, rfl, rfl, rfl⟩

@[simp] theorem setPersonality_reads (i : Nat) (v : Personality) :
    (∀ n, (s.setPersonality i v).list n = s.list n) ∧ (s.setPersonality i v).freeCues = s.freeCues ∧
    (s.setPersonality i v).freeEntries = s.freeEntries ∧ (∀ k, (s.setPersonality i v).layer k = s.layer k) ∧
    (s.setPersonality i v).freeSlots = s.freeSlots ∧ (∀ h, (s.setPersonality i v).motion h = s.motion h) ∧
    (∀ z, (s.setPersonality i v).zone z = s.zone z) ∧
    (∀ g, (s.setPersonality i v).generator g = s.generator g) ∧
    (∀ n, (s.setPersonality i v).trigger n = s.trigger n) ∧
    (∀ n, (s.setPersonality i v).line n = s.line n) ∧ (∀ h, (s.setPersonality i v).watch h = s.watch h) ∧
    (s.setPersonality i v).storeBusy = s.storeBusy ∧ (s.setPersonality i v).loading = s.loading ∧
    (s.setPersonality i v).showTime = s.showTime ∧ (s.setPersonality i v).immediateHeld = s.immediateHeld ∧
    (∀ tag, (s.setPersonality i v).admits tag = s.admits tag) :=
  ⟨fun _ => rfl, rfl, rfl, fun _ => rfl, rfl, fun _ => rfl, fun _ => rfl, fun _ => rfl, fun _ => rfl,
    fun _ => rfl, fun _ => rfl, rfl, rfl, rfl, rfl, fun _ => rfl⟩

@[simp] theorem setHeadPatch_fields (i : Nat) (v : HeadPatch) :
    (s.setHeadPatch i v).now = s.now ∧ (s.setHeadPatch i v).startUp = s.startUp ∧
    (s.setHeadPatch i v).link = s.link ∧ (s.setHeadPatch i v).store = s.store ∧
    (s.setHeadPatch i v).cues = s.cues ∧ (s.setHeadPatch i v).playback = s.playback ∧
    (s.setHeadPatch i v).merge = s.merge ∧ (s.setHeadPatch i v).limiter = s.limiter ∧
    (s.setHeadPatch i v).zones = s.zones ∧ (s.setHeadPatch i v).effects = s.effects ∧
    (s.setHeadPatch i v).inputs = s.inputs ∧ (s.setHeadPatch i v).lines = s.lines ∧
    (s.setHeadPatch i v).supervision = s.supervision ∧ (s.setHeadPatch i v).pending = s.pending :=
  ⟨rfl, rfl, rfl, rfl, rfl, rfl, rfl, rfl, rfl, rfl, rfl, rfl, rfl, rfl⟩

@[simp] theorem setHeadPatch_reads (i : Nat) (v : HeadPatch) :
    (∀ n, (s.setHeadPatch i v).list n = s.list n) ∧ (s.setHeadPatch i v).freeCues = s.freeCues ∧
    (s.setHeadPatch i v).freeEntries = s.freeEntries ∧ (∀ k, (s.setHeadPatch i v).layer k = s.layer k) ∧
    (s.setHeadPatch i v).freeSlots = s.freeSlots ∧ (∀ h, (s.setHeadPatch i v).motion h = s.motion h) ∧
    (∀ z, (s.setHeadPatch i v).zone z = s.zone z) ∧
    (∀ g, (s.setHeadPatch i v).generator g = s.generator g) ∧
    (∀ n, (s.setHeadPatch i v).trigger n = s.trigger n) ∧ (∀ n, (s.setHeadPatch i v).line n = s.line n) ∧
    (∀ h, (s.setHeadPatch i v).watch h = s.watch h) ∧ (s.setHeadPatch i v).storeBusy = s.storeBusy ∧
    (s.setHeadPatch i v).loading = s.loading ∧ (s.setHeadPatch i v).showTime = s.showTime ∧
    (s.setHeadPatch i v).immediateHeld = s.immediateHeld ∧
    (∀ tag, (s.setHeadPatch i v).admits tag = s.admits tag) :=
  ⟨fun _ => rfl, rfl, rfl, fun _ => rfl, rfl, fun _ => rfl, fun _ => rfl, fun _ => rfl, fun _ => rfl,
    fun _ => rfl, fun _ => rfl, rfl, rfl, rfl, rfl, fun _ => rfl⟩

@[simp] theorem setGroup_fields (i : Nat) (v : BitVec 512) :
    (s.setGroup i v).now = s.now ∧ (s.setGroup i v).startUp = s.startUp ∧ (s.setGroup i v).link = s.link ∧
    (s.setGroup i v).store = s.store ∧ (s.setGroup i v).cues = s.cues ∧
    (s.setGroup i v).playback = s.playback ∧ (s.setGroup i v).merge = s.merge ∧
    (s.setGroup i v).limiter = s.limiter ∧ (s.setGroup i v).zones = s.zones ∧
    (s.setGroup i v).effects = s.effects ∧ (s.setGroup i v).inputs = s.inputs ∧
    (s.setGroup i v).lines = s.lines ∧ (s.setGroup i v).supervision = s.supervision ∧
    (s.setGroup i v).pending = s.pending :=
  ⟨rfl, rfl, rfl, rfl, rfl, rfl, rfl, rfl, rfl, rfl, rfl, rfl, rfl, rfl⟩

@[simp] theorem setGroup_reads (i : Nat) (v : BitVec 512) :
    (∀ n, (s.setGroup i v).list n = s.list n) ∧ (s.setGroup i v).freeCues = s.freeCues ∧
    (s.setGroup i v).freeEntries = s.freeEntries ∧ (∀ k, (s.setGroup i v).layer k = s.layer k) ∧
    (s.setGroup i v).freeSlots = s.freeSlots ∧ (∀ h, (s.setGroup i v).motion h = s.motion h) ∧
    (∀ z, (s.setGroup i v).zone z = s.zone z) ∧ (∀ g, (s.setGroup i v).generator g = s.generator g) ∧
    (∀ n, (s.setGroup i v).trigger n = s.trigger n) ∧ (∀ n, (s.setGroup i v).line n = s.line n) ∧
    (∀ h, (s.setGroup i v).watch h = s.watch h) ∧ (s.setGroup i v).storeBusy = s.storeBusy ∧
    (s.setGroup i v).loading = s.loading ∧ (s.setGroup i v).showTime = s.showTime ∧
    (s.setGroup i v).immediateHeld = s.immediateHeld ∧ (∀ tag, (s.setGroup i v).admits tag = s.admits tag) :=
  ⟨fun _ => rfl, rfl, rfl, fun _ => rfl, rfl, fun _ => rfl, fun _ => rfl, fun _ => rfl, fun _ => rfl,
    fun _ => rfl, fun _ => rfl, rfl, rfl, rfl, rfl, fun _ => rfl⟩

@[simp] theorem setList_fields (i : Nat) (v : Option CueList) :
    (s.setList i v).now = s.now ∧ (s.setList i v).startUp = s.startUp ∧ (s.setList i v).link = s.link ∧
    (s.setList i v).store = s.store ∧ (s.setList i v).patch = s.patch ∧
    (s.setList i v).playback = s.playback ∧ (s.setList i v).merge = s.merge ∧
    (s.setList i v).limiter = s.limiter ∧ (s.setList i v).zones = s.zones ∧
    (s.setList i v).effects = s.effects ∧ (s.setList i v).inputs = s.inputs ∧
    (s.setList i v).lines = s.lines ∧ (s.setList i v).supervision = s.supervision ∧
    (s.setList i v).pending = s.pending :=
  ⟨rfl, rfl, rfl, rfl, rfl, rfl, rfl, rfl, rfl, rfl, rfl, rfl, rfl, rfl⟩

@[simp] theorem setList_reads (i : Nat) (v : Option CueList) :
    (∀ p, (s.setList i v).personality p = s.personality p) ∧
    (∀ h, (s.setList i v).headPatch h = s.headPatch h) ∧
    (∀ h, (s.setList i v).placement h = s.placement h) ∧ (∀ h, (s.setList i v).patched h = s.patched h) ∧
    (∀ h, (s.setList i v).personalityOf h = s.personalityOf h) ∧
    (∀ g, (s.setList i v).group g = s.group g) ∧ (∀ n, (s.setList i v).slotCount n = s.slotCount n) ∧
    (∀ n, (s.setList i v).headsOn n = s.headsOn n) ∧ (∀ h, (s.setList i v).lastSlot h = s.lastSlot h) ∧
    (s.setList i v).patchedHeads = s.patchedHeads ∧ (∀ k, (s.setList i v).layer k = s.layer k) ∧
    (s.setList i v).freeSlots = s.freeSlots ∧ (∀ h, (s.setList i v).motion h = s.motion h) ∧
    (∀ z, (s.setList i v).zone z = s.zone z) ∧ (∀ g, (s.setList i v).generator g = s.generator g) ∧
    (∀ n, (s.setList i v).trigger n = s.trigger n) ∧ (∀ n, (s.setList i v).line n = s.line n) ∧
    (∀ h, (s.setList i v).watch h = s.watch h) ∧ (s.setList i v).storeBusy = s.storeBusy ∧
    (s.setList i v).loading = s.loading ∧ (s.setList i v).showTime = s.showTime ∧
    (s.setList i v).immediateHeld = s.immediateHeld ∧ (∀ tag, (s.setList i v).admits tag = s.admits tag) :=
  ⟨fun _ => rfl, fun _ => rfl, fun _ => rfl, fun _ => rfl, fun _ => rfl, fun _ => rfl, fun _ => rfl,
    fun _ => rfl, fun _ => rfl, rfl, fun _ => rfl, rfl, fun _ => rfl, fun _ => rfl, fun _ => rfl,
    fun _ => rfl, fun _ => rfl, fun _ => rfl, rfl, rfl, rfl, rfl, fun _ => rfl⟩

@[simp] theorem setLayer_fields (i : Nat) (v : Layer) :
    (s.setLayer i v).now = s.now ∧ (s.setLayer i v).startUp = s.startUp ∧ (s.setLayer i v).link = s.link ∧
    (s.setLayer i v).store = s.store ∧ (s.setLayer i v).patch = s.patch ∧ (s.setLayer i v).cues = s.cues ∧
    (s.setLayer i v).merge = s.merge ∧ (s.setLayer i v).limiter = s.limiter ∧
    (s.setLayer i v).zones = s.zones ∧ (s.setLayer i v).effects = s.effects ∧
    (s.setLayer i v).inputs = s.inputs ∧ (s.setLayer i v).lines = s.lines ∧
    (s.setLayer i v).supervision = s.supervision ∧ (s.setLayer i v).pending = s.pending :=
  ⟨rfl, rfl, rfl, rfl, rfl, rfl, rfl, rfl, rfl, rfl, rfl, rfl, rfl, rfl⟩

@[simp] theorem setLayer_reads (i : Nat) (v : Layer) :
    (∀ p, (s.setLayer i v).personality p = s.personality p) ∧
    (∀ h, (s.setLayer i v).headPatch h = s.headPatch h) ∧
    (∀ h, (s.setLayer i v).placement h = s.placement h) ∧ (∀ h, (s.setLayer i v).patched h = s.patched h) ∧
    (∀ h, (s.setLayer i v).personalityOf h = s.personalityOf h) ∧
    (∀ g, (s.setLayer i v).group g = s.group g) ∧ (∀ n, (s.setLayer i v).slotCount n = s.slotCount n) ∧
    (∀ n, (s.setLayer i v).headsOn n = s.headsOn n) ∧ (∀ h, (s.setLayer i v).lastSlot h = s.lastSlot h) ∧
    (s.setLayer i v).patchedHeads = s.patchedHeads ∧ (∀ n, (s.setLayer i v).list n = s.list n) ∧
    (s.setLayer i v).freeCues = s.freeCues ∧ (s.setLayer i v).freeEntries = s.freeEntries ∧
    (∀ h, (s.setLayer i v).motion h = s.motion h) ∧ (∀ z, (s.setLayer i v).zone z = s.zone z) ∧
    (∀ g, (s.setLayer i v).generator g = s.generator g) ∧ (∀ n, (s.setLayer i v).trigger n = s.trigger n) ∧
    (∀ n, (s.setLayer i v).line n = s.line n) ∧ (∀ h, (s.setLayer i v).watch h = s.watch h) ∧
    (s.setLayer i v).storeBusy = s.storeBusy ∧ (s.setLayer i v).loading = s.loading ∧
    (s.setLayer i v).showTime = s.showTime ∧ (s.setLayer i v).immediateHeld = s.immediateHeld ∧
    (∀ tag, (s.setLayer i v).admits tag = s.admits tag) :=
  ⟨fun _ => rfl, fun _ => rfl, fun _ => rfl, fun _ => rfl, fun _ => rfl, fun _ => rfl, fun _ => rfl,
    fun _ => rfl, fun _ => rfl, rfl, fun _ => rfl, rfl, rfl, fun _ => rfl, fun _ => rfl, fun _ => rfl,
    fun _ => rfl, fun _ => rfl, fun _ => rfl, rfl, rfl, rfl, rfl, fun _ => rfl⟩

@[simp] theorem toTop_fields (i : Nat) :
    (s.toTop i).now = s.now ∧ (s.toTop i).startUp = s.startUp ∧ (s.toTop i).link = s.link ∧
    (s.toTop i).store = s.store ∧ (s.toTop i).patch = s.patch ∧ (s.toTop i).cues = s.cues ∧
    (s.toTop i).merge = s.merge ∧ (s.toTop i).limiter = s.limiter ∧ (s.toTop i).zones = s.zones ∧
    (s.toTop i).effects = s.effects ∧ (s.toTop i).inputs = s.inputs ∧ (s.toTop i).lines = s.lines ∧
    (s.toTop i).supervision = s.supervision ∧ (s.toTop i).pending = s.pending :=
  ⟨rfl, rfl, rfl, rfl, rfl, rfl, rfl, rfl, rfl, rfl, rfl, rfl, rfl, rfl⟩

@[simp] theorem toTop_reads (i : Nat) :
    (∀ p, (s.toTop i).personality p = s.personality p) ∧ (∀ h, (s.toTop i).headPatch h = s.headPatch h) ∧
    (∀ h, (s.toTop i).placement h = s.placement h) ∧ (∀ h, (s.toTop i).patched h = s.patched h) ∧
    (∀ h, (s.toTop i).personalityOf h = s.personalityOf h) ∧ (∀ g, (s.toTop i).group g = s.group g) ∧
    (∀ n, (s.toTop i).slotCount n = s.slotCount n) ∧ (∀ n, (s.toTop i).headsOn n = s.headsOn n) ∧
    (∀ h, (s.toTop i).lastSlot h = s.lastSlot h) ∧ (s.toTop i).patchedHeads = s.patchedHeads ∧
    (∀ n, (s.toTop i).list n = s.list n) ∧ (s.toTop i).freeCues = s.freeCues ∧
    (s.toTop i).freeEntries = s.freeEntries ∧ (∀ h, (s.toTop i).motion h = s.motion h) ∧
    (∀ z, (s.toTop i).zone z = s.zone z) ∧ (∀ g, (s.toTop i).generator g = s.generator g) ∧
    (∀ n, (s.toTop i).trigger n = s.trigger n) ∧ (∀ n, (s.toTop i).line n = s.line n) ∧
    (∀ h, (s.toTop i).watch h = s.watch h) ∧ (s.toTop i).storeBusy = s.storeBusy ∧
    (s.toTop i).loading = s.loading ∧ (s.toTop i).showTime = s.showTime ∧
    (s.toTop i).immediateHeld = s.immediateHeld ∧ (∀ tag, (s.toTop i).admits tag = s.admits tag) :=
  ⟨fun _ => rfl, fun _ => rfl, fun _ => rfl, fun _ => rfl, fun _ => rfl, fun _ => rfl, fun _ => rfl,
    fun _ => rfl, fun _ => rfl, rfl, fun _ => rfl, rfl, rfl, fun _ => rfl, fun _ => rfl, fun _ => rfl,
    fun _ => rfl, fun _ => rfl, fun _ => rfl, rfl, rfl, rfl, rfl, fun _ => rfl⟩

@[simp] theorem clearLayer_fields (i : Nat) :
    (s.clearLayer i).now = s.now ∧ (s.clearLayer i).startUp = s.startUp ∧ (s.clearLayer i).link = s.link ∧
    (s.clearLayer i).store = s.store ∧ (s.clearLayer i).patch = s.patch ∧ (s.clearLayer i).cues = s.cues ∧
    (s.clearLayer i).merge = s.merge ∧ (s.clearLayer i).limiter = s.limiter ∧
    (s.clearLayer i).zones = s.zones ∧ (s.clearLayer i).effects = s.effects ∧
    (s.clearLayer i).inputs = s.inputs ∧ (s.clearLayer i).lines = s.lines ∧
    (s.clearLayer i).supervision = s.supervision ∧ (s.clearLayer i).pending = s.pending :=
  ⟨rfl, rfl, rfl, rfl, rfl, rfl, rfl, rfl, rfl, rfl, rfl, rfl, rfl, rfl⟩

@[simp] theorem clearLayer_reads (i : Nat) :
    (∀ p, (s.clearLayer i).personality p = s.personality p) ∧
    (∀ h, (s.clearLayer i).headPatch h = s.headPatch h) ∧
    (∀ h, (s.clearLayer i).placement h = s.placement h) ∧ (∀ h, (s.clearLayer i).patched h = s.patched h) ∧
    (∀ h, (s.clearLayer i).personalityOf h = s.personalityOf h) ∧
    (∀ g, (s.clearLayer i).group g = s.group g) ∧ (∀ n, (s.clearLayer i).slotCount n = s.slotCount n) ∧
    (∀ n, (s.clearLayer i).headsOn n = s.headsOn n) ∧ (∀ h, (s.clearLayer i).lastSlot h = s.lastSlot h) ∧
    (s.clearLayer i).patchedHeads = s.patchedHeads ∧ (∀ n, (s.clearLayer i).list n = s.list n) ∧
    (s.clearLayer i).freeCues = s.freeCues ∧ (s.clearLayer i).freeEntries = s.freeEntries ∧
    (∀ h, (s.clearLayer i).motion h = s.motion h) ∧ (∀ z, (s.clearLayer i).zone z = s.zone z) ∧
    (∀ g, (s.clearLayer i).generator g = s.generator g) ∧ (∀ n, (s.clearLayer i).trigger n = s.trigger n) ∧
    (∀ n, (s.clearLayer i).line n = s.line n) ∧ (∀ h, (s.clearLayer i).watch h = s.watch h) ∧
    (s.clearLayer i).storeBusy = s.storeBusy ∧ (s.clearLayer i).loading = s.loading ∧
    (s.clearLayer i).showTime = s.showTime ∧ (s.clearLayer i).immediateHeld = s.immediateHeld ∧
    (∀ tag, (s.clearLayer i).admits tag = s.admits tag) :=
  ⟨fun _ => rfl, fun _ => rfl, fun _ => rfl, fun _ => rfl, fun _ => rfl, fun _ => rfl, fun _ => rfl,
    fun _ => rfl, fun _ => rfl, rfl, fun _ => rfl, rfl, rfl, fun _ => rfl, fun _ => rfl, fun _ => rfl,
    fun _ => rfl, fun _ => rfl, fun _ => rfl, rfl, rfl, rfl, rfl, fun _ => rfl⟩

@[simp] theorem withMask_fields (v : Int) :
    (s.withMask v).now = s.now ∧ (s.withMask v).startUp = s.startUp ∧ (s.withMask v).link = s.link ∧
    (s.withMask v).store = s.store ∧ (s.withMask v).patch = s.patch ∧ (s.withMask v).cues = s.cues ∧
    (s.withMask v).playback = s.playback ∧ (s.withMask v).limiter = s.limiter ∧
    (s.withMask v).zones = s.zones ∧ (s.withMask v).effects = s.effects ∧ (s.withMask v).inputs = s.inputs ∧
    (s.withMask v).lines = s.lines ∧ (s.withMask v).supervision = s.supervision ∧
    (s.withMask v).pending = s.pending :=
  ⟨rfl, rfl, rfl, rfl, rfl, rfl, rfl, rfl, rfl, rfl, rfl, rfl, rfl, rfl⟩

@[simp] theorem withMask_reads (v : Int) :
    (∀ p, (s.withMask v).personality p = s.personality p) ∧
    (∀ h, (s.withMask v).headPatch h = s.headPatch h) ∧ (∀ h, (s.withMask v).placement h = s.placement h) ∧
    (∀ h, (s.withMask v).patched h = s.patched h) ∧
    (∀ h, (s.withMask v).personalityOf h = s.personalityOf h) ∧ (∀ g, (s.withMask v).group g = s.group g) ∧
    (∀ n, (s.withMask v).slotCount n = s.slotCount n) ∧ (∀ n, (s.withMask v).headsOn n = s.headsOn n) ∧
    (∀ h, (s.withMask v).lastSlot h = s.lastSlot h) ∧ (s.withMask v).patchedHeads = s.patchedHeads ∧
    (∀ n, (s.withMask v).list n = s.list n) ∧ (s.withMask v).freeCues = s.freeCues ∧
    (s.withMask v).freeEntries = s.freeEntries ∧ (∀ k, (s.withMask v).layer k = s.layer k) ∧
    (s.withMask v).freeSlots = s.freeSlots ∧ (∀ h, (s.withMask v).motion h = s.motion h) ∧
    (∀ z, (s.withMask v).zone z = s.zone z) ∧ (∀ g, (s.withMask v).generator g = s.generator g) ∧
    (∀ n, (s.withMask v).trigger n = s.trigger n) ∧ (∀ n, (s.withMask v).line n = s.line n) ∧
    (∀ h, (s.withMask v).watch h = s.watch h) ∧ (s.withMask v).storeBusy = s.storeBusy ∧
    (s.withMask v).loading = s.loading ∧ (s.withMask v).immediateHeld = s.immediateHeld ∧
    (∀ tag, (s.withMask v).admits tag = s.admits tag) :=
  ⟨fun _ => rfl, fun _ => rfl, fun _ => rfl, fun _ => rfl, fun _ => rfl, fun _ => rfl, fun _ => rfl,
    fun _ => rfl, fun _ => rfl, rfl, fun _ => rfl, rfl, rfl, fun _ => rfl, rfl, fun _ => rfl,
    fun _ => rfl, fun _ => rfl, fun _ => rfl, fun _ => rfl, fun _ => rfl, rfl, rfl, rfl, fun _ => rfl⟩

@[simp] theorem withMode_fields (m : RigMode) :
    (s.withMode m).now = s.now ∧ (s.withMode m).startUp = s.startUp ∧ (s.withMode m).link = s.link ∧
    (s.withMode m).store = s.store ∧ (s.withMode m).patch = s.patch ∧ (s.withMode m).cues = s.cues ∧
    (s.withMode m).playback = s.playback ∧ (s.withMode m).limiter = s.limiter ∧
    (s.withMode m).zones = s.zones ∧ (s.withMode m).effects = s.effects ∧ (s.withMode m).inputs = s.inputs ∧
    (s.withMode m).lines = s.lines ∧ (s.withMode m).supervision = s.supervision ∧
    (s.withMode m).pending = s.pending :=
  ⟨rfl, rfl, rfl, rfl, rfl, rfl, rfl, rfl, rfl, rfl, rfl, rfl, rfl, rfl⟩

@[simp] theorem withMode_reads (m : RigMode) :
    (∀ p, (s.withMode m).personality p = s.personality p) ∧
    (∀ h, (s.withMode m).headPatch h = s.headPatch h) ∧ (∀ h, (s.withMode m).placement h = s.placement h) ∧
    (∀ h, (s.withMode m).patched h = s.patched h) ∧
    (∀ h, (s.withMode m).personalityOf h = s.personalityOf h) ∧ (∀ g, (s.withMode m).group g = s.group g) ∧
    (∀ n, (s.withMode m).slotCount n = s.slotCount n) ∧ (∀ n, (s.withMode m).headsOn n = s.headsOn n) ∧
    (∀ h, (s.withMode m).lastSlot h = s.lastSlot h) ∧ (s.withMode m).patchedHeads = s.patchedHeads ∧
    (∀ n, (s.withMode m).list n = s.list n) ∧ (s.withMode m).freeCues = s.freeCues ∧
    (s.withMode m).freeEntries = s.freeEntries ∧ (∀ k, (s.withMode m).layer k = s.layer k) ∧
    (s.withMode m).freeSlots = s.freeSlots ∧ (∀ h, (s.withMode m).motion h = s.motion h) ∧
    (∀ z, (s.withMode m).zone z = s.zone z) ∧ (∀ g, (s.withMode m).generator g = s.generator g) ∧
    (∀ n, (s.withMode m).trigger n = s.trigger n) ∧ (∀ n, (s.withMode m).line n = s.line n) ∧
    (∀ h, (s.withMode m).watch h = s.watch h) ∧ (s.withMode m).storeBusy = s.storeBusy ∧
    (s.withMode m).loading = s.loading ∧ (s.withMode m).immediateHeld = s.immediateHeld ∧
    (∀ tag, (s.withMode m).admits tag = s.admits tag) :=
  ⟨fun _ => rfl, fun _ => rfl, fun _ => rfl, fun _ => rfl, fun _ => rfl, fun _ => rfl, fun _ => rfl,
    fun _ => rfl, fun _ => rfl, rfl, fun _ => rfl, rfl, rfl, fun _ => rfl, rfl, fun _ => rfl,
    fun _ => rfl, fun _ => rfl, fun _ => rfl, fun _ => rfl, fun _ => rfl, rfl, rfl, rfl, fun _ => rfl⟩

@[simp] theorem setMotion_fields (i : Nat) (v : Option Motion) :
    (s.setMotion i v).now = s.now ∧ (s.setMotion i v).startUp = s.startUp ∧
    (s.setMotion i v).link = s.link ∧ (s.setMotion i v).store = s.store ∧
    (s.setMotion i v).patch = s.patch ∧ (s.setMotion i v).cues = s.cues ∧
    (s.setMotion i v).playback = s.playback ∧ (s.setMotion i v).merge = s.merge ∧
    (s.setMotion i v).zones = s.zones ∧ (s.setMotion i v).effects = s.effects ∧
    (s.setMotion i v).inputs = s.inputs ∧ (s.setMotion i v).lines = s.lines ∧
    (s.setMotion i v).supervision = s.supervision ∧ (s.setMotion i v).pending = s.pending :=
  ⟨rfl, rfl, rfl, rfl, rfl, rfl, rfl, rfl, rfl, rfl, rfl, rfl, rfl, rfl⟩

@[simp] theorem setMotion_reads (i : Nat) (v : Option Motion) :
    (∀ p, (s.setMotion i v).personality p = s.personality p) ∧
    (∀ h, (s.setMotion i v).headPatch h = s.headPatch h) ∧
    (∀ h, (s.setMotion i v).placement h = s.placement h) ∧
    (∀ h, (s.setMotion i v).patched h = s.patched h) ∧
    (∀ h, (s.setMotion i v).personalityOf h = s.personalityOf h) ∧
    (∀ g, (s.setMotion i v).group g = s.group g) ∧ (∀ n, (s.setMotion i v).slotCount n = s.slotCount n) ∧
    (∀ n, (s.setMotion i v).headsOn n = s.headsOn n) ∧ (∀ h, (s.setMotion i v).lastSlot h = s.lastSlot h) ∧
    (s.setMotion i v).patchedHeads = s.patchedHeads ∧ (∀ n, (s.setMotion i v).list n = s.list n) ∧
    (s.setMotion i v).freeCues = s.freeCues ∧ (s.setMotion i v).freeEntries = s.freeEntries ∧
    (∀ k, (s.setMotion i v).layer k = s.layer k) ∧ (s.setMotion i v).freeSlots = s.freeSlots ∧
    (∀ z, (s.setMotion i v).zone z = s.zone z) ∧ (∀ g, (s.setMotion i v).generator g = s.generator g) ∧
    (∀ n, (s.setMotion i v).trigger n = s.trigger n) ∧ (∀ n, (s.setMotion i v).line n = s.line n) ∧
    (∀ h, (s.setMotion i v).watch h = s.watch h) ∧ (s.setMotion i v).storeBusy = s.storeBusy ∧
    (s.setMotion i v).loading = s.loading ∧ (s.setMotion i v).showTime = s.showTime ∧
    (s.setMotion i v).immediateHeld = s.immediateHeld ∧ (∀ tag, (s.setMotion i v).admits tag = s.admits tag) :=
  ⟨fun _ => rfl, fun _ => rfl, fun _ => rfl, fun _ => rfl, fun _ => rfl, fun _ => rfl, fun _ => rfl,
    fun _ => rfl, fun _ => rfl, rfl, fun _ => rfl, rfl, rfl, fun _ => rfl, rfl, fun _ => rfl,
    fun _ => rfl, fun _ => rfl, fun _ => rfl, fun _ => rfl, rfl, rfl, rfl, rfl, fun _ => rfl⟩

@[simp] theorem limiterStep_fields :
    (s.limiterStep).now = s.now ∧ (s.limiterStep).startUp = s.startUp ∧ (s.limiterStep).link = s.link ∧
    (s.limiterStep).store = s.store ∧ (s.limiterStep).patch = s.patch ∧ (s.limiterStep).cues = s.cues ∧
    (s.limiterStep).playback = s.playback ∧ (s.limiterStep).merge = s.merge ∧
    (s.limiterStep).zones = s.zones ∧ (s.limiterStep).effects = s.effects ∧
    (s.limiterStep).inputs = s.inputs ∧ (s.limiterStep).lines = s.lines ∧
    (s.limiterStep).supervision = s.supervision ∧ (s.limiterStep).pending = s.pending :=
  ⟨rfl, rfl, rfl, rfl, rfl, rfl, rfl, rfl, rfl, rfl, rfl, rfl, rfl, rfl⟩

@[simp] theorem limiterStep_reads :
    (∀ p, (s.limiterStep).personality p = s.personality p) ∧
    (∀ h, (s.limiterStep).headPatch h = s.headPatch h) ∧
    (∀ h, (s.limiterStep).placement h = s.placement h) ∧ (∀ h, (s.limiterStep).patched h = s.patched h) ∧
    (∀ h, (s.limiterStep).personalityOf h = s.personalityOf h) ∧
    (∀ g, (s.limiterStep).group g = s.group g) ∧ (∀ n, (s.limiterStep).slotCount n = s.slotCount n) ∧
    (∀ n, (s.limiterStep).headsOn n = s.headsOn n) ∧ (∀ h, (s.limiterStep).lastSlot h = s.lastSlot h) ∧
    (s.limiterStep).patchedHeads = s.patchedHeads ∧ (∀ n, (s.limiterStep).list n = s.list n) ∧
    (s.limiterStep).freeCues = s.freeCues ∧ (s.limiterStep).freeEntries = s.freeEntries ∧
    (∀ k, (s.limiterStep).layer k = s.layer k) ∧ (s.limiterStep).freeSlots = s.freeSlots ∧
    (∀ z, (s.limiterStep).zone z = s.zone z) ∧ (∀ g, (s.limiterStep).generator g = s.generator g) ∧
    (∀ n, (s.limiterStep).trigger n = s.trigger n) ∧ (∀ n, (s.limiterStep).line n = s.line n) ∧
    (∀ h, (s.limiterStep).watch h = s.watch h) ∧ (s.limiterStep).storeBusy = s.storeBusy ∧
    (s.limiterStep).loading = s.loading ∧ (s.limiterStep).showTime = s.showTime ∧
    (s.limiterStep).immediateHeld = s.immediateHeld ∧ (∀ tag, (s.limiterStep).admits tag = s.admits tag) :=
  ⟨fun _ => rfl, fun _ => rfl, fun _ => rfl, fun _ => rfl, fun _ => rfl, fun _ => rfl, fun _ => rfl,
    fun _ => rfl, fun _ => rfl, rfl, fun _ => rfl, rfl, rfl, fun _ => rfl, rfl, fun _ => rfl,
    fun _ => rfl, fun _ => rfl, fun _ => rfl, fun _ => rfl, rfl, rfl, rfl, rfl, fun _ => rfl⟩

@[simp] theorem setZone_fields (i : Nat) (v : Zone) :
    (s.setZone i v).now = s.now ∧ (s.setZone i v).startUp = s.startUp ∧ (s.setZone i v).link = s.link ∧
    (s.setZone i v).store = s.store ∧ (s.setZone i v).patch = s.patch ∧ (s.setZone i v).cues = s.cues ∧
    (s.setZone i v).playback = s.playback ∧ (s.setZone i v).merge = s.merge ∧
    (s.setZone i v).limiter = s.limiter ∧ (s.setZone i v).effects = s.effects ∧
    (s.setZone i v).inputs = s.inputs ∧ (s.setZone i v).lines = s.lines ∧
    (s.setZone i v).supervision = s.supervision ∧ (s.setZone i v).pending = s.pending :=
  ⟨rfl, rfl, rfl, rfl, rfl, rfl, rfl, rfl, rfl, rfl, rfl, rfl, rfl, rfl⟩

@[simp] theorem setZone_reads (i : Nat) (v : Zone) :
    (∀ p, (s.setZone i v).personality p = s.personality p) ∧
    (∀ h, (s.setZone i v).headPatch h = s.headPatch h) ∧
    (∀ h, (s.setZone i v).placement h = s.placement h) ∧ (∀ h, (s.setZone i v).patched h = s.patched h) ∧
    (∀ h, (s.setZone i v).personalityOf h = s.personalityOf h) ∧
    (∀ g, (s.setZone i v).group g = s.group g) ∧ (∀ n, (s.setZone i v).slotCount n = s.slotCount n) ∧
    (∀ n, (s.setZone i v).headsOn n = s.headsOn n) ∧ (∀ h, (s.setZone i v).lastSlot h = s.lastSlot h) ∧
    (s.setZone i v).patchedHeads = s.patchedHeads ∧ (∀ n, (s.setZone i v).list n = s.list n) ∧
    (s.setZone i v).freeCues = s.freeCues ∧ (s.setZone i v).freeEntries = s.freeEntries ∧
    (∀ k, (s.setZone i v).layer k = s.layer k) ∧ (s.setZone i v).freeSlots = s.freeSlots ∧
    (∀ h, (s.setZone i v).motion h = s.motion h) ∧ (∀ g, (s.setZone i v).generator g = s.generator g) ∧
    (∀ n, (s.setZone i v).trigger n = s.trigger n) ∧ (∀ n, (s.setZone i v).line n = s.line n) ∧
    (∀ h, (s.setZone i v).watch h = s.watch h) ∧ (s.setZone i v).storeBusy = s.storeBusy ∧
    (s.setZone i v).loading = s.loading ∧ (s.setZone i v).showTime = s.showTime ∧
    (s.setZone i v).immediateHeld = s.immediateHeld ∧ (∀ tag, (s.setZone i v).admits tag = s.admits tag) :=
  ⟨fun _ => rfl, fun _ => rfl, fun _ => rfl, fun _ => rfl, fun _ => rfl, fun _ => rfl, fun _ => rfl,
    fun _ => rfl, fun _ => rfl, rfl, fun _ => rfl, rfl, rfl, fun _ => rfl, rfl, fun _ => rfl,
    fun _ => rfl, fun _ => rfl, fun _ => rfl, fun _ => rfl, rfl, rfl, rfl, rfl, fun _ => rfl⟩

@[simp] theorem withZoneWrite_fields (v : Bool) :
    (s.withZoneWrite v).now = s.now ∧ (s.withZoneWrite v).startUp = s.startUp ∧
    (s.withZoneWrite v).link = s.link ∧ (s.withZoneWrite v).store = s.store ∧
    (s.withZoneWrite v).patch = s.patch ∧ (s.withZoneWrite v).cues = s.cues ∧
    (s.withZoneWrite v).playback = s.playback ∧ (s.withZoneWrite v).merge = s.merge ∧
    (s.withZoneWrite v).limiter = s.limiter ∧ (s.withZoneWrite v).effects = s.effects ∧
    (s.withZoneWrite v).inputs = s.inputs ∧ (s.withZoneWrite v).lines = s.lines ∧
    (s.withZoneWrite v).supervision = s.supervision ∧ (s.withZoneWrite v).pending = s.pending :=
  ⟨rfl, rfl, rfl, rfl, rfl, rfl, rfl, rfl, rfl, rfl, rfl, rfl, rfl, rfl⟩

@[simp] theorem withZoneWrite_reads (v : Bool) :
    (∀ p, (s.withZoneWrite v).personality p = s.personality p) ∧
    (∀ h, (s.withZoneWrite v).headPatch h = s.headPatch h) ∧
    (∀ h, (s.withZoneWrite v).placement h = s.placement h) ∧
    (∀ h, (s.withZoneWrite v).patched h = s.patched h) ∧
    (∀ h, (s.withZoneWrite v).personalityOf h = s.personalityOf h) ∧
    (∀ g, (s.withZoneWrite v).group g = s.group g) ∧
    (∀ n, (s.withZoneWrite v).slotCount n = s.slotCount n) ∧
    (∀ n, (s.withZoneWrite v).headsOn n = s.headsOn n) ∧
    (∀ h, (s.withZoneWrite v).lastSlot h = s.lastSlot h) ∧
    (s.withZoneWrite v).patchedHeads = s.patchedHeads ∧ (∀ n, (s.withZoneWrite v).list n = s.list n) ∧
    (s.withZoneWrite v).freeCues = s.freeCues ∧ (s.withZoneWrite v).freeEntries = s.freeEntries ∧
    (∀ k, (s.withZoneWrite v).layer k = s.layer k) ∧ (s.withZoneWrite v).freeSlots = s.freeSlots ∧
    (∀ h, (s.withZoneWrite v).motion h = s.motion h) ∧
    (∀ g, (s.withZoneWrite v).generator g = s.generator g) ∧
    (∀ n, (s.withZoneWrite v).trigger n = s.trigger n) ∧ (∀ n, (s.withZoneWrite v).line n = s.line n) ∧
    (∀ h, (s.withZoneWrite v).watch h = s.watch h) ∧ (s.withZoneWrite v).storeBusy = s.storeBusy ∧
    (s.withZoneWrite v).loading = s.loading ∧ (s.withZoneWrite v).showTime = s.showTime ∧
    (s.withZoneWrite v).immediateHeld = s.immediateHeld ∧
    (∀ tag, (s.withZoneWrite v).admits tag = s.admits tag) :=
  ⟨fun _ => rfl, fun _ => rfl, fun _ => rfl, fun _ => rfl, fun _ => rfl, fun _ => rfl, fun _ => rfl,
    fun _ => rfl, fun _ => rfl, rfl, fun _ => rfl, rfl, rfl, fun _ => rfl, rfl, fun _ => rfl,
    fun _ => rfl, fun _ => rfl, fun _ => rfl, fun _ => rfl, rfl, rfl, rfl, rfl, fun _ => rfl⟩

@[simp] theorem setGenerator_fields (i : Nat) (v : Generator) :
    (s.setGenerator i v).now = s.now ∧ (s.setGenerator i v).startUp = s.startUp ∧
    (s.setGenerator i v).link = s.link ∧ (s.setGenerator i v).store = s.store ∧
    (s.setGenerator i v).patch = s.patch ∧ (s.setGenerator i v).cues = s.cues ∧
    (s.setGenerator i v).playback = s.playback ∧ (s.setGenerator i v).merge = s.merge ∧
    (s.setGenerator i v).limiter = s.limiter ∧ (s.setGenerator i v).zones = s.zones ∧
    (s.setGenerator i v).inputs = s.inputs ∧ (s.setGenerator i v).lines = s.lines ∧
    (s.setGenerator i v).supervision = s.supervision ∧ (s.setGenerator i v).pending = s.pending :=
  ⟨rfl, rfl, rfl, rfl, rfl, rfl, rfl, rfl, rfl, rfl, rfl, rfl, rfl, rfl⟩

@[simp] theorem setGenerator_reads (i : Nat) (v : Generator) :
    (∀ p, (s.setGenerator i v).personality p = s.personality p) ∧
    (∀ h, (s.setGenerator i v).headPatch h = s.headPatch h) ∧
    (∀ h, (s.setGenerator i v).placement h = s.placement h) ∧
    (∀ h, (s.setGenerator i v).patched h = s.patched h) ∧
    (∀ h, (s.setGenerator i v).personalityOf h = s.personalityOf h) ∧
    (∀ g, (s.setGenerator i v).group g = s.group g) ∧
    (∀ n, (s.setGenerator i v).slotCount n = s.slotCount n) ∧
    (∀ n, (s.setGenerator i v).headsOn n = s.headsOn n) ∧
    (∀ h, (s.setGenerator i v).lastSlot h = s.lastSlot h) ∧
    (s.setGenerator i v).patchedHeads = s.patchedHeads ∧ (∀ n, (s.setGenerator i v).list n = s.list n) ∧
    (s.setGenerator i v).freeCues = s.freeCues ∧ (s.setGenerator i v).freeEntries = s.freeEntries ∧
    (∀ k, (s.setGenerator i v).layer k = s.layer k) ∧ (s.setGenerator i v).freeSlots = s.freeSlots ∧
    (∀ h, (s.setGenerator i v).motion h = s.motion h) ∧ (∀ z, (s.setGenerator i v).zone z = s.zone z) ∧
    (∀ n, (s.setGenerator i v).trigger n = s.trigger n) ∧ (∀ n, (s.setGenerator i v).line n = s.line n) ∧
    (∀ h, (s.setGenerator i v).watch h = s.watch h) ∧ (s.setGenerator i v).storeBusy = s.storeBusy ∧
    (s.setGenerator i v).loading = s.loading ∧ (s.setGenerator i v).showTime = s.showTime ∧
    (s.setGenerator i v).immediateHeld = s.immediateHeld ∧
    (∀ tag, (s.setGenerator i v).admits tag = s.admits tag) :=
  ⟨fun _ => rfl, fun _ => rfl, fun _ => rfl, fun _ => rfl, fun _ => rfl, fun _ => rfl, fun _ => rfl,
    fun _ => rfl, fun _ => rfl, rfl, fun _ => rfl, rfl, rfl, fun _ => rfl, rfl, fun _ => rfl,
    fun _ => rfl, fun _ => rfl, fun _ => rfl, fun _ => rfl, rfl, rfl, rfl, rfl, fun _ => rfl⟩

@[simp] theorem setTrigger_fields (i : Nat) (v : Trigger) :
    (s.setTrigger i v).now = s.now ∧ (s.setTrigger i v).startUp = s.startUp ∧
    (s.setTrigger i v).link = s.link ∧ (s.setTrigger i v).store = s.store ∧
    (s.setTrigger i v).patch = s.patch ∧ (s.setTrigger i v).cues = s.cues ∧
    (s.setTrigger i v).playback = s.playback ∧ (s.setTrigger i v).merge = s.merge ∧
    (s.setTrigger i v).limiter = s.limiter ∧ (s.setTrigger i v).zones = s.zones ∧
    (s.setTrigger i v).effects = s.effects ∧ (s.setTrigger i v).lines = s.lines ∧
    (s.setTrigger i v).supervision = s.supervision ∧ (s.setTrigger i v).pending = s.pending :=
  ⟨rfl, rfl, rfl, rfl, rfl, rfl, rfl, rfl, rfl, rfl, rfl, rfl, rfl, rfl⟩

@[simp] theorem setTrigger_reads (i : Nat) (v : Trigger) :
    (∀ p, (s.setTrigger i v).personality p = s.personality p) ∧
    (∀ h, (s.setTrigger i v).headPatch h = s.headPatch h) ∧
    (∀ h, (s.setTrigger i v).placement h = s.placement h) ∧
    (∀ h, (s.setTrigger i v).patched h = s.patched h) ∧
    (∀ h, (s.setTrigger i v).personalityOf h = s.personalityOf h) ∧
    (∀ g, (s.setTrigger i v).group g = s.group g) ∧ (∀ n, (s.setTrigger i v).slotCount n = s.slotCount n) ∧
    (∀ n, (s.setTrigger i v).headsOn n = s.headsOn n) ∧
    (∀ h, (s.setTrigger i v).lastSlot h = s.lastSlot h) ∧ (s.setTrigger i v).patchedHeads = s.patchedHeads ∧
    (∀ n, (s.setTrigger i v).list n = s.list n) ∧ (s.setTrigger i v).freeCues = s.freeCues ∧
    (s.setTrigger i v).freeEntries = s.freeEntries ∧ (∀ k, (s.setTrigger i v).layer k = s.layer k) ∧
    (s.setTrigger i v).freeSlots = s.freeSlots ∧ (∀ h, (s.setTrigger i v).motion h = s.motion h) ∧
    (∀ z, (s.setTrigger i v).zone z = s.zone z) ∧ (∀ g, (s.setTrigger i v).generator g = s.generator g) ∧
    (∀ n, (s.setTrigger i v).line n = s.line n) ∧ (∀ h, (s.setTrigger i v).watch h = s.watch h) ∧
    (s.setTrigger i v).storeBusy = s.storeBusy ∧ (s.setTrigger i v).loading = s.loading ∧
    (s.setTrigger i v).showTime = s.showTime ∧ (s.setTrigger i v).immediateHeld = s.immediateHeld ∧
    (∀ tag, (s.setTrigger i v).admits tag = s.admits tag) :=
  ⟨fun _ => rfl, fun _ => rfl, fun _ => rfl, fun _ => rfl, fun _ => rfl, fun _ => rfl, fun _ => rfl,
    fun _ => rfl, fun _ => rfl, rfl, fun _ => rfl, rfl, rfl, fun _ => rfl, rfl, fun _ => rfl,
    fun _ => rfl, fun _ => rfl, fun _ => rfl, fun _ => rfl, rfl, rfl, rfl, rfl, fun _ => rfl⟩

@[simp] theorem setBeat_fields (b : Beat) :
    (s.setBeat b).now = s.now ∧ (s.setBeat b).startUp = s.startUp ∧ (s.setBeat b).link = s.link ∧
    (s.setBeat b).store = s.store ∧ (s.setBeat b).patch = s.patch ∧ (s.setBeat b).cues = s.cues ∧
    (s.setBeat b).playback = s.playback ∧ (s.setBeat b).merge = s.merge ∧
    (s.setBeat b).limiter = s.limiter ∧ (s.setBeat b).zones = s.zones ∧ (s.setBeat b).effects = s.effects ∧
    (s.setBeat b).lines = s.lines ∧ (s.setBeat b).supervision = s.supervision ∧
    (s.setBeat b).pending = s.pending :=
  ⟨rfl, rfl, rfl, rfl, rfl, rfl, rfl, rfl, rfl, rfl, rfl, rfl, rfl, rfl⟩

@[simp] theorem setBeat_reads (b : Beat) :
    (∀ p, (s.setBeat b).personality p = s.personality p) ∧
    (∀ h, (s.setBeat b).headPatch h = s.headPatch h) ∧ (∀ h, (s.setBeat b).placement h = s.placement h) ∧
    (∀ h, (s.setBeat b).patched h = s.patched h) ∧
    (∀ h, (s.setBeat b).personalityOf h = s.personalityOf h) ∧ (∀ g, (s.setBeat b).group g = s.group g) ∧
    (∀ n, (s.setBeat b).slotCount n = s.slotCount n) ∧ (∀ n, (s.setBeat b).headsOn n = s.headsOn n) ∧
    (∀ h, (s.setBeat b).lastSlot h = s.lastSlot h) ∧ (s.setBeat b).patchedHeads = s.patchedHeads ∧
    (∀ n, (s.setBeat b).list n = s.list n) ∧ (s.setBeat b).freeCues = s.freeCues ∧
    (s.setBeat b).freeEntries = s.freeEntries ∧ (∀ k, (s.setBeat b).layer k = s.layer k) ∧
    (s.setBeat b).freeSlots = s.freeSlots ∧ (∀ h, (s.setBeat b).motion h = s.motion h) ∧
    (∀ z, (s.setBeat b).zone z = s.zone z) ∧ (∀ g, (s.setBeat b).generator g = s.generator g) ∧
    (∀ n, (s.setBeat b).line n = s.line n) ∧ (∀ h, (s.setBeat b).watch h = s.watch h) ∧
    (s.setBeat b).storeBusy = s.storeBusy ∧ (s.setBeat b).loading = s.loading ∧
    (s.setBeat b).showTime = s.showTime ∧ (s.setBeat b).immediateHeld = s.immediateHeld ∧
    (∀ tag, (s.setBeat b).admits tag = s.admits tag) :=
  ⟨fun _ => rfl, fun _ => rfl, fun _ => rfl, fun _ => rfl, fun _ => rfl, fun _ => rfl, fun _ => rfl,
    fun _ => rfl, fun _ => rfl, rfl, fun _ => rfl, rfl, rfl, fun _ => rfl, rfl, fun _ => rfl,
    fun _ => rfl, fun _ => rfl, fun _ => rfl, fun _ => rfl, rfl, rfl, rfl, rfl, fun _ => rfl⟩

@[simp] theorem setTimecode_fields (c : Timecode) :
    (s.setTimecode c).now = s.now ∧ (s.setTimecode c).startUp = s.startUp ∧
    (s.setTimecode c).link = s.link ∧ (s.setTimecode c).store = s.store ∧
    (s.setTimecode c).patch = s.patch ∧ (s.setTimecode c).cues = s.cues ∧
    (s.setTimecode c).playback = s.playback ∧ (s.setTimecode c).merge = s.merge ∧
    (s.setTimecode c).limiter = s.limiter ∧ (s.setTimecode c).zones = s.zones ∧
    (s.setTimecode c).effects = s.effects ∧ (s.setTimecode c).lines = s.lines ∧
    (s.setTimecode c).supervision = s.supervision ∧ (s.setTimecode c).pending = s.pending :=
  ⟨rfl, rfl, rfl, rfl, rfl, rfl, rfl, rfl, rfl, rfl, rfl, rfl, rfl, rfl⟩

@[simp] theorem setTimecode_reads (c : Timecode) :
    (∀ p, (s.setTimecode c).personality p = s.personality p) ∧
    (∀ h, (s.setTimecode c).headPatch h = s.headPatch h) ∧
    (∀ h, (s.setTimecode c).placement h = s.placement h) ∧
    (∀ h, (s.setTimecode c).patched h = s.patched h) ∧
    (∀ h, (s.setTimecode c).personalityOf h = s.personalityOf h) ∧
    (∀ g, (s.setTimecode c).group g = s.group g) ∧ (∀ n, (s.setTimecode c).slotCount n = s.slotCount n) ∧
    (∀ n, (s.setTimecode c).headsOn n = s.headsOn n) ∧ (∀ h, (s.setTimecode c).lastSlot h = s.lastSlot h) ∧
    (s.setTimecode c).patchedHeads = s.patchedHeads ∧ (∀ n, (s.setTimecode c).list n = s.list n) ∧
    (s.setTimecode c).freeCues = s.freeCues ∧ (s.setTimecode c).freeEntries = s.freeEntries ∧
    (∀ k, (s.setTimecode c).layer k = s.layer k) ∧ (s.setTimecode c).freeSlots = s.freeSlots ∧
    (∀ h, (s.setTimecode c).motion h = s.motion h) ∧ (∀ z, (s.setTimecode c).zone z = s.zone z) ∧
    (∀ g, (s.setTimecode c).generator g = s.generator g) ∧ (∀ n, (s.setTimecode c).line n = s.line n) ∧
    (∀ h, (s.setTimecode c).watch h = s.watch h) ∧ (s.setTimecode c).storeBusy = s.storeBusy ∧
    (s.setTimecode c).loading = s.loading ∧ (s.setTimecode c).showTime = s.showTime ∧
    (s.setTimecode c).immediateHeld = s.immediateHeld ∧ (∀ tag, (s.setTimecode c).admits tag = s.admits tag) :=
  ⟨fun _ => rfl, fun _ => rfl, fun _ => rfl, fun _ => rfl, fun _ => rfl, fun _ => rfl, fun _ => rfl,
    fun _ => rfl, fun _ => rfl, rfl, fun _ => rfl, rfl, rfl, fun _ => rfl, rfl, fun _ => rfl,
    fun _ => rfl, fun _ => rfl, fun _ => rfl, fun _ => rfl, rfl, rfl, rfl, rfl, fun _ => rfl⟩

@[simp] theorem withPartial_fields (cs : List Byte) :
    (s.withPartial cs).now = s.now ∧ (s.withPartial cs).startUp = s.startUp ∧
    (s.withPartial cs).link = s.link ∧ (s.withPartial cs).store = s.store ∧
    (s.withPartial cs).patch = s.patch ∧ (s.withPartial cs).cues = s.cues ∧
    (s.withPartial cs).playback = s.playback ∧ (s.withPartial cs).merge = s.merge ∧
    (s.withPartial cs).limiter = s.limiter ∧ (s.withPartial cs).zones = s.zones ∧
    (s.withPartial cs).effects = s.effects ∧ (s.withPartial cs).lines = s.lines ∧
    (s.withPartial cs).supervision = s.supervision ∧ (s.withPartial cs).pending = s.pending :=
  ⟨rfl, rfl, rfl, rfl, rfl, rfl, rfl, rfl, rfl, rfl, rfl, rfl, rfl, rfl⟩

@[simp] theorem withPartial_reads (cs : List Byte) :
    (∀ p, (s.withPartial cs).personality p = s.personality p) ∧
    (∀ h, (s.withPartial cs).headPatch h = s.headPatch h) ∧
    (∀ h, (s.withPartial cs).placement h = s.placement h) ∧
    (∀ h, (s.withPartial cs).patched h = s.patched h) ∧
    (∀ h, (s.withPartial cs).personalityOf h = s.personalityOf h) ∧
    (∀ g, (s.withPartial cs).group g = s.group g) ∧ (∀ n, (s.withPartial cs).slotCount n = s.slotCount n) ∧
    (∀ n, (s.withPartial cs).headsOn n = s.headsOn n) ∧
    (∀ h, (s.withPartial cs).lastSlot h = s.lastSlot h) ∧ (s.withPartial cs).patchedHeads = s.patchedHeads ∧
    (∀ n, (s.withPartial cs).list n = s.list n) ∧ (s.withPartial cs).freeCues = s.freeCues ∧
    (s.withPartial cs).freeEntries = s.freeEntries ∧ (∀ k, (s.withPartial cs).layer k = s.layer k) ∧
    (s.withPartial cs).freeSlots = s.freeSlots ∧ (∀ h, (s.withPartial cs).motion h = s.motion h) ∧
    (∀ z, (s.withPartial cs).zone z = s.zone z) ∧ (∀ g, (s.withPartial cs).generator g = s.generator g) ∧
    (∀ n, (s.withPartial cs).line n = s.line n) ∧ (∀ h, (s.withPartial cs).watch h = s.watch h) ∧
    (s.withPartial cs).storeBusy = s.storeBusy ∧ (s.withPartial cs).loading = s.loading ∧
    (s.withPartial cs).showTime = s.showTime ∧ (s.withPartial cs).immediateHeld = s.immediateHeld ∧
    (∀ tag, (s.withPartial cs).admits tag = s.admits tag) :=
  ⟨fun _ => rfl, fun _ => rfl, fun _ => rfl, fun _ => rfl, fun _ => rfl, fun _ => rfl, fun _ => rfl,
    fun _ => rfl, fun _ => rfl, rfl, fun _ => rfl, rfl, rfl, fun _ => rfl, rfl, fun _ => rfl,
    fun _ => rfl, fun _ => rfl, fun _ => rfl, fun _ => rfl, rfl, rfl, rfl, rfl, fun _ => rfl⟩

@[simp] theorem setLine_fields (i : Nat) (v : Line) :
    (s.setLine i v).now = s.now ∧ (s.setLine i v).startUp = s.startUp ∧ (s.setLine i v).link = s.link ∧
    (s.setLine i v).store = s.store ∧ (s.setLine i v).patch = s.patch ∧ (s.setLine i v).cues = s.cues ∧
    (s.setLine i v).playback = s.playback ∧ (s.setLine i v).merge = s.merge ∧
    (s.setLine i v).limiter = s.limiter ∧ (s.setLine i v).zones = s.zones ∧
    (s.setLine i v).effects = s.effects ∧ (s.setLine i v).inputs = s.inputs ∧
    (s.setLine i v).supervision = s.supervision ∧ (s.setLine i v).pending = s.pending :=
  ⟨rfl, rfl, rfl, rfl, rfl, rfl, rfl, rfl, rfl, rfl, rfl, rfl, rfl, rfl⟩

@[simp] theorem setLine_reads (i : Nat) (v : Line) :
    (∀ p, (s.setLine i v).personality p = s.personality p) ∧
    (∀ h, (s.setLine i v).headPatch h = s.headPatch h) ∧
    (∀ h, (s.setLine i v).placement h = s.placement h) ∧ (∀ h, (s.setLine i v).patched h = s.patched h) ∧
    (∀ h, (s.setLine i v).personalityOf h = s.personalityOf h) ∧
    (∀ g, (s.setLine i v).group g = s.group g) ∧ (∀ n, (s.setLine i v).slotCount n = s.slotCount n) ∧
    (∀ n, (s.setLine i v).headsOn n = s.headsOn n) ∧ (∀ h, (s.setLine i v).lastSlot h = s.lastSlot h) ∧
    (s.setLine i v).patchedHeads = s.patchedHeads ∧ (∀ n, (s.setLine i v).list n = s.list n) ∧
    (s.setLine i v).freeCues = s.freeCues ∧ (s.setLine i v).freeEntries = s.freeEntries ∧
    (∀ k, (s.setLine i v).layer k = s.layer k) ∧ (s.setLine i v).freeSlots = s.freeSlots ∧
    (∀ h, (s.setLine i v).motion h = s.motion h) ∧ (∀ z, (s.setLine i v).zone z = s.zone z) ∧
    (∀ g, (s.setLine i v).generator g = s.generator g) ∧ (∀ n, (s.setLine i v).trigger n = s.trigger n) ∧
    (∀ h, (s.setLine i v).watch h = s.watch h) ∧ (s.setLine i v).storeBusy = s.storeBusy ∧
    (s.setLine i v).loading = s.loading ∧ (s.setLine i v).showTime = s.showTime ∧
    (s.setLine i v).immediateHeld = s.immediateHeld ∧ (∀ tag, (s.setLine i v).admits tag = s.admits tag) :=
  ⟨fun _ => rfl, fun _ => rfl, fun _ => rfl, fun _ => rfl, fun _ => rfl, fun _ => rfl, fun _ => rfl,
    fun _ => rfl, fun _ => rfl, rfl, fun _ => rfl, rfl, rfl, fun _ => rfl, rfl, fun _ => rfl,
    fun _ => rfl, fun _ => rfl, fun _ => rfl, fun _ => rfl, rfl, rfl, rfl, rfl, fun _ => rfl⟩

@[simp] theorem setWatch_fields (i : Nat) (v : Watch) :
    (s.setWatch i v).now = s.now ∧ (s.setWatch i v).startUp = s.startUp ∧ (s.setWatch i v).link = s.link ∧
    (s.setWatch i v).store = s.store ∧ (s.setWatch i v).patch = s.patch ∧ (s.setWatch i v).cues = s.cues ∧
    (s.setWatch i v).playback = s.playback ∧ (s.setWatch i v).merge = s.merge ∧
    (s.setWatch i v).limiter = s.limiter ∧ (s.setWatch i v).zones = s.zones ∧
    (s.setWatch i v).effects = s.effects ∧ (s.setWatch i v).inputs = s.inputs ∧
    (s.setWatch i v).lines = s.lines ∧ (s.setWatch i v).pending = s.pending :=
  ⟨rfl, rfl, rfl, rfl, rfl, rfl, rfl, rfl, rfl, rfl, rfl, rfl, rfl, rfl⟩

@[simp] theorem setWatch_reads (i : Nat) (v : Watch) :
    (∀ p, (s.setWatch i v).personality p = s.personality p) ∧
    (∀ h, (s.setWatch i v).headPatch h = s.headPatch h) ∧
    (∀ h, (s.setWatch i v).placement h = s.placement h) ∧ (∀ h, (s.setWatch i v).patched h = s.patched h) ∧
    (∀ h, (s.setWatch i v).personalityOf h = s.personalityOf h) ∧
    (∀ g, (s.setWatch i v).group g = s.group g) ∧ (∀ n, (s.setWatch i v).slotCount n = s.slotCount n) ∧
    (∀ n, (s.setWatch i v).headsOn n = s.headsOn n) ∧ (∀ h, (s.setWatch i v).lastSlot h = s.lastSlot h) ∧
    (s.setWatch i v).patchedHeads = s.patchedHeads ∧ (∀ n, (s.setWatch i v).list n = s.list n) ∧
    (s.setWatch i v).freeCues = s.freeCues ∧ (s.setWatch i v).freeEntries = s.freeEntries ∧
    (∀ k, (s.setWatch i v).layer k = s.layer k) ∧ (s.setWatch i v).freeSlots = s.freeSlots ∧
    (∀ h, (s.setWatch i v).motion h = s.motion h) ∧ (∀ z, (s.setWatch i v).zone z = s.zone z) ∧
    (∀ g, (s.setWatch i v).generator g = s.generator g) ∧ (∀ n, (s.setWatch i v).trigger n = s.trigger n) ∧
    (∀ n, (s.setWatch i v).line n = s.line n) ∧ (s.setWatch i v).storeBusy = s.storeBusy ∧
    (s.setWatch i v).loading = s.loading ∧ (s.setWatch i v).showTime = s.showTime ∧
    (s.setWatch i v).immediateHeld = s.immediateHeld ∧ (∀ tag, (s.setWatch i v).admits tag = s.admits tag) :=
  ⟨fun _ => rfl, fun _ => rfl, fun _ => rfl, fun _ => rfl, fun _ => rfl, fun _ => rfl, fun _ => rfl,
    fun _ => rfl, fun _ => rfl, rfl, fun _ => rfl, rfl, rfl, fun _ => rfl, rfl, fun _ => rfl,
    fun _ => rfl, fun _ => rfl, fun _ => rfl, fun _ => rfl, rfl, rfl, rfl, rfl, fun _ => rfl⟩

@[simp] theorem leaveRehome_fields (i : Nat) :
    (s.leaveRehome i).now = s.now ∧ (s.leaveRehome i).startUp = s.startUp ∧
    (s.leaveRehome i).link = s.link ∧ (s.leaveRehome i).store = s.store ∧
    (s.leaveRehome i).patch = s.patch ∧ (s.leaveRehome i).cues = s.cues ∧
    (s.leaveRehome i).playback = s.playback ∧ (s.leaveRehome i).merge = s.merge ∧
    (s.leaveRehome i).limiter = s.limiter ∧ (s.leaveRehome i).zones = s.zones ∧
    (s.leaveRehome i).effects = s.effects ∧ (s.leaveRehome i).inputs = s.inputs ∧
    (s.leaveRehome i).lines = s.lines ∧ (s.leaveRehome i).pending = s.pending :=
  ⟨rfl, rfl, rfl, rfl, rfl, rfl, rfl, rfl, rfl, rfl, rfl, rfl, rfl, rfl⟩

@[simp] theorem leaveRehome_reads (i : Nat) :
    (∀ p, (s.leaveRehome i).personality p = s.personality p) ∧
    (∀ h, (s.leaveRehome i).headPatch h = s.headPatch h) ∧
    (∀ h, (s.leaveRehome i).placement h = s.placement h) ∧
    (∀ h, (s.leaveRehome i).patched h = s.patched h) ∧
    (∀ h, (s.leaveRehome i).personalityOf h = s.personalityOf h) ∧
    (∀ g, (s.leaveRehome i).group g = s.group g) ∧ (∀ n, (s.leaveRehome i).slotCount n = s.slotCount n) ∧
    (∀ n, (s.leaveRehome i).headsOn n = s.headsOn n) ∧ (∀ h, (s.leaveRehome i).lastSlot h = s.lastSlot h) ∧
    (s.leaveRehome i).patchedHeads = s.patchedHeads ∧ (∀ n, (s.leaveRehome i).list n = s.list n) ∧
    (s.leaveRehome i).freeCues = s.freeCues ∧ (s.leaveRehome i).freeEntries = s.freeEntries ∧
    (∀ k, (s.leaveRehome i).layer k = s.layer k) ∧ (s.leaveRehome i).freeSlots = s.freeSlots ∧
    (∀ h, (s.leaveRehome i).motion h = s.motion h) ∧ (∀ z, (s.leaveRehome i).zone z = s.zone z) ∧
    (∀ g, (s.leaveRehome i).generator g = s.generator g) ∧
    (∀ n, (s.leaveRehome i).trigger n = s.trigger n) ∧ (∀ n, (s.leaveRehome i).line n = s.line n) ∧
    (s.leaveRehome i).storeBusy = s.storeBusy ∧ (s.leaveRehome i).loading = s.loading ∧
    (s.leaveRehome i).showTime = s.showTime ∧ (s.leaveRehome i).immediateHeld = s.immediateHeld ∧
    (∀ tag, (s.leaveRehome i).admits tag = s.admits tag) :=
  ⟨fun _ => rfl, fun _ => rfl, fun _ => rfl, fun _ => rfl, fun _ => rfl, fun _ => rfl, fun _ => rfl,
    fun _ => rfl, fun _ => rfl, rfl, fun _ => rfl, rfl, rfl, fun _ => rfl, rfl, fun _ => rfl,
    fun _ => rfl, fun _ => rfl, fun _ => rfl, fun _ => rfl, rfl, rfl, rfl, rfl, fun _ => rfl⟩

@[simp] theorem joinRehome_fields (i : Nat) :
    (s.joinRehome i).now = s.now ∧ (s.joinRehome i).startUp = s.startUp ∧ (s.joinRehome i).link = s.link ∧
    (s.joinRehome i).store = s.store ∧ (s.joinRehome i).patch = s.patch ∧ (s.joinRehome i).cues = s.cues ∧
    (s.joinRehome i).playback = s.playback ∧ (s.joinRehome i).merge = s.merge ∧
    (s.joinRehome i).limiter = s.limiter ∧ (s.joinRehome i).zones = s.zones ∧
    (s.joinRehome i).effects = s.effects ∧ (s.joinRehome i).inputs = s.inputs ∧
    (s.joinRehome i).lines = s.lines ∧ (s.joinRehome i).pending = s.pending :=
  ⟨rfl, rfl, rfl, rfl, rfl, rfl, rfl, rfl, rfl, rfl, rfl, rfl, rfl, rfl⟩

@[simp] theorem joinRehome_reads (i : Nat) :
    (∀ p, (s.joinRehome i).personality p = s.personality p) ∧
    (∀ h, (s.joinRehome i).headPatch h = s.headPatch h) ∧
    (∀ h, (s.joinRehome i).placement h = s.placement h) ∧ (∀ h, (s.joinRehome i).patched h = s.patched h) ∧
    (∀ h, (s.joinRehome i).personalityOf h = s.personalityOf h) ∧
    (∀ g, (s.joinRehome i).group g = s.group g) ∧ (∀ n, (s.joinRehome i).slotCount n = s.slotCount n) ∧
    (∀ n, (s.joinRehome i).headsOn n = s.headsOn n) ∧ (∀ h, (s.joinRehome i).lastSlot h = s.lastSlot h) ∧
    (s.joinRehome i).patchedHeads = s.patchedHeads ∧ (∀ n, (s.joinRehome i).list n = s.list n) ∧
    (s.joinRehome i).freeCues = s.freeCues ∧ (s.joinRehome i).freeEntries = s.freeEntries ∧
    (∀ k, (s.joinRehome i).layer k = s.layer k) ∧ (s.joinRehome i).freeSlots = s.freeSlots ∧
    (∀ h, (s.joinRehome i).motion h = s.motion h) ∧ (∀ z, (s.joinRehome i).zone z = s.zone z) ∧
    (∀ g, (s.joinRehome i).generator g = s.generator g) ∧ (∀ n, (s.joinRehome i).trigger n = s.trigger n) ∧
    (∀ n, (s.joinRehome i).line n = s.line n) ∧ (s.joinRehome i).storeBusy = s.storeBusy ∧
    (s.joinRehome i).loading = s.loading ∧ (s.joinRehome i).showTime = s.showTime ∧
    (s.joinRehome i).immediateHeld = s.immediateHeld ∧ (∀ tag, (s.joinRehome i).admits tag = s.admits tag) :=
  ⟨fun _ => rfl, fun _ => rfl, fun _ => rfl, fun _ => rfl, fun _ => rfl, fun _ => rfl, fun _ => rfl,
    fun _ => rfl, fun _ => rfl, rfl, fun _ => rfl, rfl, rfl, fun _ => rfl, rfl, fun _ => rfl,
    fun _ => rfl, fun _ => rfl, fun _ => rfl, fun _ => rfl, rfl, rfl, rfl, rfl, fun _ => rfl⟩

@[simp] theorem lowerHoming_fields (i : Nat) :
    (s.lowerHoming i).now = s.now ∧ (s.lowerHoming i).startUp = s.startUp ∧
    (s.lowerHoming i).link = s.link ∧ (s.lowerHoming i).store = s.store ∧
    (s.lowerHoming i).patch = s.patch ∧ (s.lowerHoming i).cues = s.cues ∧
    (s.lowerHoming i).playback = s.playback ∧ (s.lowerHoming i).merge = s.merge ∧
    (s.lowerHoming i).limiter = s.limiter ∧ (s.lowerHoming i).zones = s.zones ∧
    (s.lowerHoming i).effects = s.effects ∧ (s.lowerHoming i).inputs = s.inputs ∧
    (s.lowerHoming i).lines = s.lines ∧ (s.lowerHoming i).pending = s.pending :=
  ⟨rfl, rfl, rfl, rfl, rfl, rfl, rfl, rfl, rfl, rfl, rfl, rfl, rfl, rfl⟩

@[simp] theorem lowerHoming_reads (i : Nat) :
    (∀ p, (s.lowerHoming i).personality p = s.personality p) ∧
    (∀ h, (s.lowerHoming i).headPatch h = s.headPatch h) ∧
    (∀ h, (s.lowerHoming i).placement h = s.placement h) ∧
    (∀ h, (s.lowerHoming i).patched h = s.patched h) ∧
    (∀ h, (s.lowerHoming i).personalityOf h = s.personalityOf h) ∧
    (∀ g, (s.lowerHoming i).group g = s.group g) ∧ (∀ n, (s.lowerHoming i).slotCount n = s.slotCount n) ∧
    (∀ n, (s.lowerHoming i).headsOn n = s.headsOn n) ∧ (∀ h, (s.lowerHoming i).lastSlot h = s.lastSlot h) ∧
    (s.lowerHoming i).patchedHeads = s.patchedHeads ∧ (∀ n, (s.lowerHoming i).list n = s.list n) ∧
    (s.lowerHoming i).freeCues = s.freeCues ∧ (s.lowerHoming i).freeEntries = s.freeEntries ∧
    (∀ k, (s.lowerHoming i).layer k = s.layer k) ∧ (s.lowerHoming i).freeSlots = s.freeSlots ∧
    (∀ h, (s.lowerHoming i).motion h = s.motion h) ∧ (∀ z, (s.lowerHoming i).zone z = s.zone z) ∧
    (∀ g, (s.lowerHoming i).generator g = s.generator g) ∧
    (∀ n, (s.lowerHoming i).trigger n = s.trigger n) ∧ (∀ n, (s.lowerHoming i).line n = s.line n) ∧
    (s.lowerHoming i).storeBusy = s.storeBusy ∧ (s.lowerHoming i).loading = s.loading ∧
    (s.lowerHoming i).showTime = s.showTime ∧ (s.lowerHoming i).immediateHeld = s.immediateHeld ∧
    (∀ tag, (s.lowerHoming i).admits tag = s.admits tag) :=
  ⟨fun _ => rfl, fun _ => rfl, fun _ => rfl, fun _ => rfl, fun _ => rfl, fun _ => rfl, fun _ => rfl,
    fun _ => rfl, fun _ => rfl, rfl, fun _ => rfl, rfl, rfl, fun _ => rfl, rfl, fun _ => rfl,
    fun _ => rfl, fun _ => rfl, fun _ => rfl, fun _ => rfl, rfl, rfl, rfl, rfl, fun _ => rfl⟩

@[simp] theorem resetSupervision_fields :
    (s.resetSupervision).now = s.now ∧ (s.resetSupervision).startUp = s.startUp ∧
    (s.resetSupervision).link = s.link ∧ (s.resetSupervision).store = s.store ∧
    (s.resetSupervision).patch = s.patch ∧ (s.resetSupervision).cues = s.cues ∧
    (s.resetSupervision).playback = s.playback ∧ (s.resetSupervision).merge = s.merge ∧
    (s.resetSupervision).limiter = s.limiter ∧ (s.resetSupervision).zones = s.zones ∧
    (s.resetSupervision).effects = s.effects ∧ (s.resetSupervision).inputs = s.inputs ∧
    (s.resetSupervision).lines = s.lines ∧ (s.resetSupervision).pending = s.pending :=
  ⟨rfl, rfl, rfl, rfl, rfl, rfl, rfl, rfl, rfl, rfl, rfl, rfl, rfl, rfl⟩

@[simp] theorem resetSupervision_reads :
    (∀ p, (s.resetSupervision).personality p = s.personality p) ∧
    (∀ h, (s.resetSupervision).headPatch h = s.headPatch h) ∧
    (∀ h, (s.resetSupervision).placement h = s.placement h) ∧
    (∀ h, (s.resetSupervision).patched h = s.patched h) ∧
    (∀ h, (s.resetSupervision).personalityOf h = s.personalityOf h) ∧
    (∀ g, (s.resetSupervision).group g = s.group g) ∧
    (∀ n, (s.resetSupervision).slotCount n = s.slotCount n) ∧
    (∀ n, (s.resetSupervision).headsOn n = s.headsOn n) ∧
    (∀ h, (s.resetSupervision).lastSlot h = s.lastSlot h) ∧
    (s.resetSupervision).patchedHeads = s.patchedHeads ∧ (∀ n, (s.resetSupervision).list n = s.list n) ∧
    (s.resetSupervision).freeCues = s.freeCues ∧ (s.resetSupervision).freeEntries = s.freeEntries ∧
    (∀ k, (s.resetSupervision).layer k = s.layer k) ∧ (s.resetSupervision).freeSlots = s.freeSlots ∧
    (∀ h, (s.resetSupervision).motion h = s.motion h) ∧ (∀ z, (s.resetSupervision).zone z = s.zone z) ∧
    (∀ g, (s.resetSupervision).generator g = s.generator g) ∧
    (∀ n, (s.resetSupervision).trigger n = s.trigger n) ∧ (∀ n, (s.resetSupervision).line n = s.line n) ∧
    (s.resetSupervision).storeBusy = s.storeBusy ∧ (s.resetSupervision).loading = s.loading ∧
    (s.resetSupervision).showTime = s.showTime ∧ (s.resetSupervision).immediateHeld = s.immediateHeld ∧
    (∀ tag, (s.resetSupervision).admits tag = s.admits tag) :=
  ⟨fun _ => rfl, fun _ => rfl, fun _ => rfl, fun _ => rfl, fun _ => rfl, fun _ => rfl, fun _ => rfl,
    fun _ => rfl, fun _ => rfl, rfl, fun _ => rfl, rfl, rfl, fun _ => rfl, rfl, fun _ => rfl,
    fun _ => rfl, fun _ => rfl, fun _ => rfl, fun _ => rfl, rfl, rfl, rfl, rfl, fun _ => rfl⟩

@[simp] theorem setStore_fields (st : Store) :
    (s.setStore st).now = s.now ∧ (s.setStore st).startUp = s.startUp ∧ (s.setStore st).link = s.link ∧
    (s.setStore st).patch = s.patch ∧ (s.setStore st).cues = s.cues ∧
    (s.setStore st).playback = s.playback ∧ (s.setStore st).merge = s.merge ∧
    (s.setStore st).limiter = s.limiter ∧ (s.setStore st).zones = s.zones ∧
    (s.setStore st).effects = s.effects ∧ (s.setStore st).inputs = s.inputs ∧
    (s.setStore st).lines = s.lines ∧ (s.setStore st).supervision = s.supervision ∧
    (s.setStore st).pending = s.pending :=
  ⟨rfl, rfl, rfl, rfl, rfl, rfl, rfl, rfl, rfl, rfl, rfl, rfl, rfl, rfl⟩

@[simp] theorem setStore_reads (st : Store) :
    (∀ p, (s.setStore st).personality p = s.personality p) ∧
    (∀ h, (s.setStore st).headPatch h = s.headPatch h) ∧
    (∀ h, (s.setStore st).placement h = s.placement h) ∧ (∀ h, (s.setStore st).patched h = s.patched h) ∧
    (∀ h, (s.setStore st).personalityOf h = s.personalityOf h) ∧
    (∀ g, (s.setStore st).group g = s.group g) ∧ (∀ n, (s.setStore st).slotCount n = s.slotCount n) ∧
    (∀ n, (s.setStore st).headsOn n = s.headsOn n) ∧ (∀ h, (s.setStore st).lastSlot h = s.lastSlot h) ∧
    (s.setStore st).patchedHeads = s.patchedHeads ∧ (∀ n, (s.setStore st).list n = s.list n) ∧
    (s.setStore st).freeCues = s.freeCues ∧ (s.setStore st).freeEntries = s.freeEntries ∧
    (∀ k, (s.setStore st).layer k = s.layer k) ∧ (s.setStore st).freeSlots = s.freeSlots ∧
    (∀ h, (s.setStore st).motion h = s.motion h) ∧ (∀ z, (s.setStore st).zone z = s.zone z) ∧
    (∀ g, (s.setStore st).generator g = s.generator g) ∧ (∀ n, (s.setStore st).trigger n = s.trigger n) ∧
    (∀ n, (s.setStore st).line n = s.line n) ∧ (∀ h, (s.setStore st).watch h = s.watch h) ∧
    (s.setStore st).showTime = s.showTime ∧ (s.setStore st).immediateHeld = s.immediateHeld ∧
    (∀ tag, (s.setStore st).admits tag = s.admits tag) :=
  ⟨fun _ => rfl, fun _ => rfl, fun _ => rfl, fun _ => rfl, fun _ => rfl, fun _ => rfl, fun _ => rfl,
    fun _ => rfl, fun _ => rfl, rfl, fun _ => rfl, rfl, rfl, fun _ => rfl, rfl, fun _ => rfl,
    fun _ => rfl, fun _ => rfl, fun _ => rfl, fun _ => rfl, fun _ => rfl, rfl, rfl, fun _ => rfl⟩

/-- The sum alone is written. -/
@[simp] theorem summed_eq (x : BitVec 32) : s.summed x = s.setStore { s.store with sum := x } := rfl

/-- The activity alone is written. -/
@[simp] theorem storeIdle_eq : s.storeIdle = s.setStore { s.store with activity := .idle } := rfl

@[simp] theorem enqueueReply_fields (r : Reply) :
    (s.enqueueReply r).now = s.now ∧ (s.enqueueReply r).startUp = s.startUp ∧
    (s.enqueueReply r).store = s.store ∧ (s.enqueueReply r).patch = s.patch ∧
    (s.enqueueReply r).cues = s.cues ∧ (s.enqueueReply r).playback = s.playback ∧
    (s.enqueueReply r).merge = s.merge ∧ (s.enqueueReply r).limiter = s.limiter ∧
    (s.enqueueReply r).zones = s.zones ∧ (s.enqueueReply r).effects = s.effects ∧
    (s.enqueueReply r).inputs = s.inputs ∧ (s.enqueueReply r).lines = s.lines ∧
    (s.enqueueReply r).supervision = s.supervision ∧ (s.enqueueReply r).pending = s.pending :=
  ⟨rfl, rfl, rfl, rfl, rfl, rfl, rfl, rfl, rfl, rfl, rfl, rfl, rfl, rfl⟩

@[simp] theorem enqueueReply_reads (r : Reply) :
    (∀ p, (s.enqueueReply r).personality p = s.personality p) ∧
    (∀ h, (s.enqueueReply r).headPatch h = s.headPatch h) ∧
    (∀ h, (s.enqueueReply r).placement h = s.placement h) ∧
    (∀ h, (s.enqueueReply r).patched h = s.patched h) ∧
    (∀ h, (s.enqueueReply r).personalityOf h = s.personalityOf h) ∧
    (∀ g, (s.enqueueReply r).group g = s.group g) ∧ (∀ n, (s.enqueueReply r).slotCount n = s.slotCount n) ∧
    (∀ n, (s.enqueueReply r).headsOn n = s.headsOn n) ∧
    (∀ h, (s.enqueueReply r).lastSlot h = s.lastSlot h) ∧ (s.enqueueReply r).patchedHeads = s.patchedHeads ∧
    (∀ n, (s.enqueueReply r).list n = s.list n) ∧ (s.enqueueReply r).freeCues = s.freeCues ∧
    (s.enqueueReply r).freeEntries = s.freeEntries ∧ (∀ k, (s.enqueueReply r).layer k = s.layer k) ∧
    (s.enqueueReply r).freeSlots = s.freeSlots ∧ (∀ h, (s.enqueueReply r).motion h = s.motion h) ∧
    (∀ z, (s.enqueueReply r).zone z = s.zone z) ∧ (∀ g, (s.enqueueReply r).generator g = s.generator g) ∧
    (∀ n, (s.enqueueReply r).trigger n = s.trigger n) ∧ (∀ n, (s.enqueueReply r).line n = s.line n) ∧
    (∀ h, (s.enqueueReply r).watch h = s.watch h) ∧ (s.enqueueReply r).storeBusy = s.storeBusy ∧
    (s.enqueueReply r).loading = s.loading ∧ (s.enqueueReply r).showTime = s.showTime :=
  ⟨fun _ => rfl, fun _ => rfl, fun _ => rfl, fun _ => rfl, fun _ => rfl, fun _ => rfl, fun _ => rfl,
    fun _ => rfl, fun _ => rfl, rfl, fun _ => rfl, rfl, rfl, fun _ => rfl, rfl, fun _ => rfl,
    fun _ => rfl, fun _ => rfl, fun _ => rfl, fun _ => rfl, fun _ => rfl, rfl, rfl, rfl⟩

@[simp] theorem deferredTag_fields (tag : Byte) :
    (s.deferredTag tag).now = s.now ∧ (s.deferredTag tag).startUp = s.startUp ∧
    (s.deferredTag tag).store = s.store ∧ (s.deferredTag tag).patch = s.patch ∧
    (s.deferredTag tag).cues = s.cues ∧ (s.deferredTag tag).playback = s.playback ∧
    (s.deferredTag tag).merge = s.merge ∧ (s.deferredTag tag).limiter = s.limiter ∧
    (s.deferredTag tag).zones = s.zones ∧ (s.deferredTag tag).effects = s.effects ∧
    (s.deferredTag tag).inputs = s.inputs ∧ (s.deferredTag tag).lines = s.lines ∧
    (s.deferredTag tag).supervision = s.supervision ∧ (s.deferredTag tag).pending = s.pending :=
  ⟨rfl, rfl, rfl, rfl, rfl, rfl, rfl, rfl, rfl, rfl, rfl, rfl, rfl, rfl⟩

@[simp] theorem deferredTag_reads (tag : Byte) :
    (∀ p, (s.deferredTag tag).personality p = s.personality p) ∧
    (∀ h, (s.deferredTag tag).headPatch h = s.headPatch h) ∧
    (∀ h, (s.deferredTag tag).placement h = s.placement h) ∧
    (∀ h, (s.deferredTag tag).patched h = s.patched h) ∧
    (∀ h, (s.deferredTag tag).personalityOf h = s.personalityOf h) ∧
    (∀ g, (s.deferredTag tag).group g = s.group g) ∧
    (∀ n, (s.deferredTag tag).slotCount n = s.slotCount n) ∧
    (∀ n, (s.deferredTag tag).headsOn n = s.headsOn n) ∧
    (∀ h, (s.deferredTag tag).lastSlot h = s.lastSlot h) ∧
    (s.deferredTag tag).patchedHeads = s.patchedHeads ∧ (∀ n, (s.deferredTag tag).list n = s.list n) ∧
    (s.deferredTag tag).freeCues = s.freeCues ∧ (s.deferredTag tag).freeEntries = s.freeEntries ∧
    (∀ k, (s.deferredTag tag).layer k = s.layer k) ∧ (s.deferredTag tag).freeSlots = s.freeSlots ∧
    (∀ h, (s.deferredTag tag).motion h = s.motion h) ∧ (∀ z, (s.deferredTag tag).zone z = s.zone z) ∧
    (∀ g, (s.deferredTag tag).generator g = s.generator g) ∧
    (∀ n, (s.deferredTag tag).trigger n = s.trigger n) ∧ (∀ n, (s.deferredTag tag).line n = s.line n) ∧
    (∀ h, (s.deferredTag tag).watch h = s.watch h) ∧ (s.deferredTag tag).storeBusy = s.storeBusy ∧
    (s.deferredTag tag).loading = s.loading ∧ (s.deferredTag tag).showTime = s.showTime :=
  ⟨fun _ => rfl, fun _ => rfl, fun _ => rfl, fun _ => rfl, fun _ => rfl, fun _ => rfl, fun _ => rfl,
    fun _ => rfl, fun _ => rfl, rfl, fun _ => rfl, rfl, rfl, fun _ => rfl, rfl, fun _ => rfl,
    fun _ => rfl, fun _ => rfl, fun _ => rfl, fun _ => rfl, fun _ => rfl, rfl, rfl, rfl⟩

@[simp] theorem answerDeferred_fields (kind tag : Byte) (status : Status) (body : ReplyBody) :
    (s.answerDeferred kind tag status body).now = s.now ∧
    (s.answerDeferred kind tag status body).startUp = s.startUp ∧
    (s.answerDeferred kind tag status body).store = s.store ∧
    (s.answerDeferred kind tag status body).patch = s.patch ∧
    (s.answerDeferred kind tag status body).cues = s.cues ∧
    (s.answerDeferred kind tag status body).playback = s.playback ∧
    (s.answerDeferred kind tag status body).merge = s.merge ∧
    (s.answerDeferred kind tag status body).limiter = s.limiter ∧
    (s.answerDeferred kind tag status body).zones = s.zones ∧
    (s.answerDeferred kind tag status body).effects = s.effects ∧
    (s.answerDeferred kind tag status body).inputs = s.inputs ∧
    (s.answerDeferred kind tag status body).lines = s.lines ∧
    (s.answerDeferred kind tag status body).supervision = s.supervision ∧
    (s.answerDeferred kind tag status body).pending = s.pending :=
  ⟨rfl, rfl, rfl, rfl, rfl, rfl, rfl, rfl, rfl, rfl, rfl, rfl, rfl, rfl⟩

@[simp] theorem answerDeferred_reads (kind tag : Byte) (status : Status) (body : ReplyBody) :
    (∀ p, (s.answerDeferred kind tag status body).personality p = s.personality p) ∧
    (∀ h, (s.answerDeferred kind tag status body).headPatch h = s.headPatch h) ∧
    (∀ h, (s.answerDeferred kind tag status body).placement h = s.placement h) ∧
    (∀ h, (s.answerDeferred kind tag status body).patched h = s.patched h) ∧
    (∀ h, (s.answerDeferred kind tag status body).personalityOf h = s.personalityOf h) ∧
    (∀ g, (s.answerDeferred kind tag status body).group g = s.group g) ∧
    (∀ n, (s.answerDeferred kind tag status body).slotCount n = s.slotCount n) ∧
    (∀ n, (s.answerDeferred kind tag status body).headsOn n = s.headsOn n) ∧
    (∀ h, (s.answerDeferred kind tag status body).lastSlot h = s.lastSlot h) ∧
    (s.answerDeferred kind tag status body).patchedHeads = s.patchedHeads ∧
    (∀ n, (s.answerDeferred kind tag status body).list n = s.list n) ∧
    (s.answerDeferred kind tag status body).freeCues = s.freeCues ∧
    (s.answerDeferred kind tag status body).freeEntries = s.freeEntries ∧
    (∀ k, (s.answerDeferred kind tag status body).layer k = s.layer k) ∧
    (s.answerDeferred kind tag status body).freeSlots = s.freeSlots ∧
    (∀ h, (s.answerDeferred kind tag status body).motion h = s.motion h) ∧
    (∀ z, (s.answerDeferred kind tag status body).zone z = s.zone z) ∧
    (∀ g, (s.answerDeferred kind tag status body).generator g = s.generator g) ∧
    (∀ n, (s.answerDeferred kind tag status body).trigger n = s.trigger n) ∧
    (∀ n, (s.answerDeferred kind tag status body).line n = s.line n) ∧
    (∀ h, (s.answerDeferred kind tag status body).watch h = s.watch h) ∧
    (s.answerDeferred kind tag status body).storeBusy = s.storeBusy ∧
    (s.answerDeferred kind tag status body).loading = s.loading ∧
    (s.answerDeferred kind tag status body).showTime = s.showTime :=
  ⟨fun _ => rfl, fun _ => rfl, fun _ => rfl, fun _ => rfl, fun _ => rfl, fun _ => rfl, fun _ => rfl,
    fun _ => rfl, fun _ => rfl, rfl, fun _ => rfl, rfl, rfl, fun _ => rfl, rfl, fun _ => rfl,
    fun _ => rfl, fun _ => rfl, fun _ => rfl, fun _ => rfl, fun _ => rfl, rfl, rfl, rfl⟩

@[simp] theorem clearNotices_fields :
    (s.clearNotices).now = s.now ∧ (s.clearNotices).startUp = s.startUp ∧ (s.clearNotices).store = s.store ∧
    (s.clearNotices).patch = s.patch ∧ (s.clearNotices).cues = s.cues ∧
    (s.clearNotices).playback = s.playback ∧ (s.clearNotices).merge = s.merge ∧
    (s.clearNotices).limiter = s.limiter ∧ (s.clearNotices).zones = s.zones ∧
    (s.clearNotices).effects = s.effects ∧ (s.clearNotices).inputs = s.inputs ∧
    (s.clearNotices).lines = s.lines ∧ (s.clearNotices).supervision = s.supervision ∧
    (s.clearNotices).pending = s.pending :=
  ⟨rfl, rfl, rfl, rfl, rfl, rfl, rfl, rfl, rfl, rfl, rfl, rfl, rfl, rfl⟩

@[simp] theorem clearNotices_reads :
    (∀ p, (s.clearNotices).personality p = s.personality p) ∧
    (∀ h, (s.clearNotices).headPatch h = s.headPatch h) ∧
    (∀ h, (s.clearNotices).placement h = s.placement h) ∧ (∀ h, (s.clearNotices).patched h = s.patched h) ∧
    (∀ h, (s.clearNotices).personalityOf h = s.personalityOf h) ∧
    (∀ g, (s.clearNotices).group g = s.group g) ∧ (∀ n, (s.clearNotices).slotCount n = s.slotCount n) ∧
    (∀ n, (s.clearNotices).headsOn n = s.headsOn n) ∧ (∀ h, (s.clearNotices).lastSlot h = s.lastSlot h) ∧
    (s.clearNotices).patchedHeads = s.patchedHeads ∧ (∀ n, (s.clearNotices).list n = s.list n) ∧
    (s.clearNotices).freeCues = s.freeCues ∧ (s.clearNotices).freeEntries = s.freeEntries ∧
    (∀ k, (s.clearNotices).layer k = s.layer k) ∧ (s.clearNotices).freeSlots = s.freeSlots ∧
    (∀ h, (s.clearNotices).motion h = s.motion h) ∧ (∀ z, (s.clearNotices).zone z = s.zone z) ∧
    (∀ g, (s.clearNotices).generator g = s.generator g) ∧ (∀ n, (s.clearNotices).trigger n = s.trigger n) ∧
    (∀ n, (s.clearNotices).line n = s.line n) ∧ (∀ h, (s.clearNotices).watch h = s.watch h) ∧
    (s.clearNotices).storeBusy = s.storeBusy ∧ (s.clearNotices).loading = s.loading ∧
    (s.clearNotices).showTime = s.showTime :=
  ⟨fun _ => rfl, fun _ => rfl, fun _ => rfl, fun _ => rfl, fun _ => rfl, fun _ => rfl, fun _ => rfl,
    fun _ => rfl, fun _ => rfl, rfl, fun _ => rfl, rfl, rfl, fun _ => rfl, rfl, fun _ => rfl,
    fun _ => rfl, fun _ => rfl, fun _ => rfl, fun _ => rfl, fun _ => rfl, rfl, rfl, rfl⟩

@[simp] theorem withAssembler_fields (a : Assembler) :
    (s.withAssembler a).now = s.now ∧ (s.withAssembler a).startUp = s.startUp ∧
    (s.withAssembler a).store = s.store ∧ (s.withAssembler a).patch = s.patch ∧
    (s.withAssembler a).cues = s.cues ∧ (s.withAssembler a).playback = s.playback ∧
    (s.withAssembler a).merge = s.merge ∧ (s.withAssembler a).limiter = s.limiter ∧
    (s.withAssembler a).zones = s.zones ∧ (s.withAssembler a).effects = s.effects ∧
    (s.withAssembler a).inputs = s.inputs ∧ (s.withAssembler a).lines = s.lines ∧
    (s.withAssembler a).supervision = s.supervision ∧ (s.withAssembler a).pending = s.pending :=
  ⟨rfl, rfl, rfl, rfl, rfl, rfl, rfl, rfl, rfl, rfl, rfl, rfl, rfl, rfl⟩

@[simp] theorem withAssembler_reads (a : Assembler) :
    (∀ p, (s.withAssembler a).personality p = s.personality p) ∧
    (∀ h, (s.withAssembler a).headPatch h = s.headPatch h) ∧
    (∀ h, (s.withAssembler a).placement h = s.placement h) ∧
    (∀ h, (s.withAssembler a).patched h = s.patched h) ∧
    (∀ h, (s.withAssembler a).personalityOf h = s.personalityOf h) ∧
    (∀ g, (s.withAssembler a).group g = s.group g) ∧
    (∀ n, (s.withAssembler a).slotCount n = s.slotCount n) ∧
    (∀ n, (s.withAssembler a).headsOn n = s.headsOn n) ∧
    (∀ h, (s.withAssembler a).lastSlot h = s.lastSlot h) ∧
    (s.withAssembler a).patchedHeads = s.patchedHeads ∧ (∀ n, (s.withAssembler a).list n = s.list n) ∧
    (s.withAssembler a).freeCues = s.freeCues ∧ (s.withAssembler a).freeEntries = s.freeEntries ∧
    (∀ k, (s.withAssembler a).layer k = s.layer k) ∧ (s.withAssembler a).freeSlots = s.freeSlots ∧
    (∀ h, (s.withAssembler a).motion h = s.motion h) ∧ (∀ z, (s.withAssembler a).zone z = s.zone z) ∧
    (∀ g, (s.withAssembler a).generator g = s.generator g) ∧
    (∀ n, (s.withAssembler a).trigger n = s.trigger n) ∧ (∀ n, (s.withAssembler a).line n = s.line n) ∧
    (∀ h, (s.withAssembler a).watch h = s.watch h) ∧ (s.withAssembler a).storeBusy = s.storeBusy ∧
    (s.withAssembler a).loading = s.loading ∧ (s.withAssembler a).showTime = s.showTime :=
  ⟨fun _ => rfl, fun _ => rfl, fun _ => rfl, fun _ => rfl, fun _ => rfl, fun _ => rfl, fun _ => rfl,
    fun _ => rfl, fun _ => rfl, rfl, fun _ => rfl, rfl, rfl, fun _ => rfl, rfl, fun _ => rfl,
    fun _ => rfl, fun _ => rfl, fun _ => rfl, fun _ => rfl, fun _ => rfl, rfl, rfl, rfl⟩

@[simp] theorem endTransmit_fields :
    (s.endTransmit).now = s.now ∧ (s.endTransmit).startUp = s.startUp ∧ (s.endTransmit).store = s.store ∧
    (s.endTransmit).patch = s.patch ∧ (s.endTransmit).cues = s.cues ∧
    (s.endTransmit).playback = s.playback ∧ (s.endTransmit).merge = s.merge ∧
    (s.endTransmit).limiter = s.limiter ∧ (s.endTransmit).zones = s.zones ∧
    (s.endTransmit).effects = s.effects ∧ (s.endTransmit).inputs = s.inputs ∧
    (s.endTransmit).lines = s.lines ∧ (s.endTransmit).supervision = s.supervision ∧
    (s.endTransmit).pending = s.pending :=
  ⟨rfl, rfl, rfl, rfl, rfl, rfl, rfl, rfl, rfl, rfl, rfl, rfl, rfl, rfl⟩

@[simp] theorem endTransmit_reads :
    (∀ p, (s.endTransmit).personality p = s.personality p) ∧
    (∀ h, (s.endTransmit).headPatch h = s.headPatch h) ∧
    (∀ h, (s.endTransmit).placement h = s.placement h) ∧ (∀ h, (s.endTransmit).patched h = s.patched h) ∧
    (∀ h, (s.endTransmit).personalityOf h = s.personalityOf h) ∧
    (∀ g, (s.endTransmit).group g = s.group g) ∧ (∀ n, (s.endTransmit).slotCount n = s.slotCount n) ∧
    (∀ n, (s.endTransmit).headsOn n = s.headsOn n) ∧ (∀ h, (s.endTransmit).lastSlot h = s.lastSlot h) ∧
    (s.endTransmit).patchedHeads = s.patchedHeads ∧ (∀ n, (s.endTransmit).list n = s.list n) ∧
    (s.endTransmit).freeCues = s.freeCues ∧ (s.endTransmit).freeEntries = s.freeEntries ∧
    (∀ k, (s.endTransmit).layer k = s.layer k) ∧ (s.endTransmit).freeSlots = s.freeSlots ∧
    (∀ h, (s.endTransmit).motion h = s.motion h) ∧ (∀ z, (s.endTransmit).zone z = s.zone z) ∧
    (∀ g, (s.endTransmit).generator g = s.generator g) ∧ (∀ n, (s.endTransmit).trigger n = s.trigger n) ∧
    (∀ n, (s.endTransmit).line n = s.line n) ∧ (∀ h, (s.endTransmit).watch h = s.watch h) ∧
    (s.endTransmit).storeBusy = s.storeBusy ∧ (s.endTransmit).loading = s.loading ∧
    (s.endTransmit).showTime = s.showTime :=
  ⟨fun _ => rfl, fun _ => rfl, fun _ => rfl, fun _ => rfl, fun _ => rfl, fun _ => rfl, fun _ => rfl,
    fun _ => rfl, fun _ => rfl, rfl, fun _ => rfl, rfl, rfl, fun _ => rfl, rfl, fun _ => rfl,
    fun _ => rfl, fun _ => rfl, fun _ => rfl, fun _ => rfl, fun _ => rfl, rfl, rfl, rfl⟩

@[simp] theorem withPending_fields (cs : List Instr) :
    (s.withPending cs).now = s.now ∧ (s.withPending cs).startUp = s.startUp ∧
    (s.withPending cs).link = s.link ∧ (s.withPending cs).store = s.store ∧
    (s.withPending cs).patch = s.patch ∧ (s.withPending cs).cues = s.cues ∧
    (s.withPending cs).playback = s.playback ∧ (s.withPending cs).merge = s.merge ∧
    (s.withPending cs).limiter = s.limiter ∧ (s.withPending cs).zones = s.zones ∧
    (s.withPending cs).effects = s.effects ∧ (s.withPending cs).inputs = s.inputs ∧
    (s.withPending cs).lines = s.lines ∧ (s.withPending cs).supervision = s.supervision :=
  ⟨rfl, rfl, rfl, rfl, rfl, rfl, rfl, rfl, rfl, rfl, rfl, rfl, rfl, rfl⟩

@[simp] theorem withPending_reads (cs : List Instr) :
    (∀ p, (s.withPending cs).personality p = s.personality p) ∧
    (∀ h, (s.withPending cs).headPatch h = s.headPatch h) ∧
    (∀ h, (s.withPending cs).placement h = s.placement h) ∧
    (∀ h, (s.withPending cs).patched h = s.patched h) ∧
    (∀ h, (s.withPending cs).personalityOf h = s.personalityOf h) ∧
    (∀ g, (s.withPending cs).group g = s.group g) ∧ (∀ n, (s.withPending cs).slotCount n = s.slotCount n) ∧
    (∀ n, (s.withPending cs).headsOn n = s.headsOn n) ∧
    (∀ h, (s.withPending cs).lastSlot h = s.lastSlot h) ∧ (s.withPending cs).patchedHeads = s.patchedHeads ∧
    (∀ n, (s.withPending cs).list n = s.list n) ∧ (s.withPending cs).freeCues = s.freeCues ∧
    (s.withPending cs).freeEntries = s.freeEntries ∧ (∀ k, (s.withPending cs).layer k = s.layer k) ∧
    (s.withPending cs).freeSlots = s.freeSlots ∧ (∀ h, (s.withPending cs).motion h = s.motion h) ∧
    (∀ z, (s.withPending cs).zone z = s.zone z) ∧ (∀ g, (s.withPending cs).generator g = s.generator g) ∧
    (∀ n, (s.withPending cs).trigger n = s.trigger n) ∧ (∀ n, (s.withPending cs).line n = s.line n) ∧
    (∀ h, (s.withPending cs).watch h = s.watch h) ∧ (s.withPending cs).storeBusy = s.storeBusy ∧
    (s.withPending cs).loading = s.loading ∧ (s.withPending cs).showTime = s.showTime ∧
    (s.withPending cs).immediateHeld = s.immediateHeld ∧
    (∀ tag, (s.withPending cs).admits tag = s.admits tag) :=
  ⟨fun _ => rfl, fun _ => rfl, fun _ => rfl, fun _ => rfl, fun _ => rfl, fun _ => rfl, fun _ => rfl,
    fun _ => rfl, fun _ => rfl, rfl, fun _ => rfl, rfl, rfl, fun _ => rfl, rfl, fun _ => rfl,
    fun _ => rfl, fun _ => rfl, fun _ => rfl, fun _ => rfl, fun _ => rfl, rfl, rfl, rfl, rfl,
    fun _ => rfl⟩

@[simp] theorem personality_setPersonality (i j : Nat) (v : Personality) :
    (s.setPersonality i v).personality j = if j = i then some v else s.personality j := by
  simp [State.setPersonality, State.personality]

@[simp] theorem headPatch_setHeadPatch (i j : Nat) (v : HeadPatch) :
    (s.setHeadPatch i v).headPatch j = if j = i then v else s.headPatch j := by
  simp [State.setHeadPatch, State.headPatch]

@[simp] theorem group_setGroup (i j : Nat) (v : BitVec 512) :
    (s.setGroup i v).group j = if j = i then v else s.group j := by
  simp [State.setGroup, State.group]

@[simp] theorem list_setList (i j : Nat) (v : Option CueList) :
    (s.setList i v).list j = if j = i then v else s.list j := by
  simp [State.setList, State.list]

@[simp] theorem layer_setLayer (i j : Nat) (v : Layer) :
    (s.setLayer i v).layer j = if j = i then v else s.layer j := by
  simp [State.setLayer, State.layer]

@[simp] theorem motion_setMotion (i j : Nat) (v : Option Motion) :
    (s.setMotion i v).motion j = if j = i then v else s.motion j := by
  simp [State.setMotion, State.motion]

@[simp] theorem zone_setZone (i j : Nat) (v : Zone) :
    (s.setZone i v).zone j = if j = i then v else s.zone j := by
  simp [State.setZone, State.zone]

@[simp] theorem generator_setGenerator (i j : Nat) (v : Generator) :
    (s.setGenerator i v).generator j = if j = i then v else s.generator j := by
  simp [State.setGenerator, State.generator]

@[simp] theorem trigger_setTrigger (i j : Nat) (v : Trigger) :
    (s.setTrigger i v).trigger j = if j = i then v else s.trigger j := by
  simp [State.setTrigger, State.trigger]

@[simp] theorem line_setLine (i j : Nat) (v : Line) :
    (s.setLine i v).line j = if j = i then v else s.line j := by
  simp [State.setLine, State.line]

@[simp] theorem watch_setWatch (i j : Nat) (v : Watch) :
    (s.setWatch i v).watch j = if j = i then v else s.watch j := by
  simp [State.setWatch, State.watch]

/-! ## What an update leaves and writes within its own component -/

@[simp] theorem setPersonality_patch (i : Nat) (v : Personality) :
    (s.setPersonality i v).patch.heads = s.patch.heads ∧ (s.setPersonality i v).patch.groups = s.patch.groups :=
  ⟨rfl, rfl⟩

@[simp] theorem setHeadPatch_patch (i : Nat) (v : HeadPatch) :
    (s.setHeadPatch i v).patch.personalities = s.patch.personalities ∧
    (s.setHeadPatch i v).patch.groups = s.patch.groups :=
  ⟨rfl, rfl⟩

@[simp] theorem setGroup_patch (i : Nat) (v : BitVec 512) :
    (s.setGroup i v).patch.personalities = s.patch.personalities ∧ (s.setGroup i v).patch.heads = s.patch.heads :=
  ⟨rfl, rfl⟩

@[simp] theorem setLayer_playback (i : Nat) (v : Layer) :
    (s.setLayer i v).playback.takeStack = s.playback.takeStack ∧
    (s.setLayer i v).playback.stepTimer = s.playback.stepTimer :=
  ⟨rfl, rfl⟩

@[simp] theorem toTop_playback (i : Nat) :
    (s.toTop i).playback.takeStack = s.playback.takeStack.erase i ++ [i] ∧
    (s.toTop i).playback.stepTimer = s.playback.stepTimer ∧ ∀ k, (s.toTop i).layer k = s.layer k :=
  ⟨rfl, rfl, fun _ => rfl⟩

@[simp] theorem clearLayer_playback (i : Nat) :
    (s.clearLayer i).playback.takeStack = s.playback.takeStack.erase i ∧
    (s.clearLayer i).playback.stepTimer = s.playback.stepTimer ∧
    ∀ k, (s.clearLayer i).layer k = if k = i then (s.layer i).cleared else s.layer k :=
  ⟨rfl, rfl, fun k => layer_setLayer s i k _⟩

@[simp] theorem withMask_merge (v : Int) : (s.withMask v).merge = { s.merge with mask := clamp 0 15 v } := rfl

@[simp] theorem withMode_merge (m : RigMode) : (s.withMode m).merge = { s.merge with mode := m } := rfl

@[simp] theorem setMotion_limiter (i : Nat) (v : Option Motion) :
    (s.setMotion i v).limiter.stepTimer = s.limiter.stepTimer := rfl

@[simp] theorem setZone_zones (i : Nat) (v : Zone) : (s.setZone i v).zones.writeEnable = s.zones.writeEnable := rfl

@[simp] theorem withZoneWrite_zones (v : Bool) :
    (s.withZoneWrite v).zones = { s.zones with writeEnable := v } := rfl

@[simp] theorem setTrigger_inputs (i : Nat) (v : Trigger) :
    (s.setTrigger i v).inputs.beat = s.inputs.beat ∧ (s.setTrigger i v).inputs.timecode = s.inputs.timecode ∧
    (s.setTrigger i v).inputs.floor = s.inputs.floor :=
  ⟨rfl, rfl, rfl⟩

@[simp] theorem setBeat_inputs (b : Beat) : (s.setBeat b).inputs = { s.inputs with beat := b } := rfl

@[simp] theorem setBeat_setBeat (b c : Beat) : (s.setBeat b).setBeat c = s.setBeat c := rfl

@[simp] theorem setTimecode_inputs (c : Timecode) : (s.setTimecode c).inputs = { s.inputs with timecode := c } := rfl

@[simp] theorem setTimecode_setTimecode (c d : Timecode) : (s.setTimecode c).setTimecode d = s.setTimecode d := rfl

@[simp] theorem setWatch_supervision (i : Nat) (v : Watch) :
    (s.setWatch i v).supervision.rehomeQueue = s.supervision.rehomeQueue ∧
    (s.setWatch i v).supervision.homingCount = s.supervision.homingCount ∧
    (s.setWatch i v).supervision.homingLimit = s.supervision.homingLimit ∧
    (s.setWatch i v).supervision.pollTimer = s.supervision.pollTimer :=
  ⟨rfl, rfl, rfl, rfl⟩

@[simp] theorem joinRehome_supervision (i : Nat) :
    (s.joinRehome i).supervision.rehomeQueue = s.supervision.rehomeQueue ++ [i] ∧
    (s.joinRehome i).supervision.homingCount = s.supervision.homingCount ∧
    (s.joinRehome i).supervision.homingLimit = s.supervision.homingLimit ∧
    ∀ k, (s.joinRehome i).watch k = if k = i then { s.watch i with stage := .queued } else s.watch k :=
  ⟨rfl, rfl, rfl, fun k => watch_setWatch s i k _⟩

@[simp] theorem leaveRehome_supervision (i : Nat) :
    (s.leaveRehome i).supervision.rehomeQueue = s.supervision.rehomeQueue.erase i ∧
    (s.leaveRehome i).supervision.homingCount = s.supervision.homingCount ∧
    (s.leaveRehome i).supervision.homingLimit = s.supervision.homingLimit ∧
    ∀ k, (s.leaveRehome i).watch k = s.watch k :=
  ⟨rfl, rfl, rfl, fun _ => rfl⟩

@[simp] theorem lowerHoming_supervision (n : Nat) :
    (s.lowerHoming n).supervision.rehomeQueue = s.supervision.rehomeQueue ∧
    (s.lowerHoming n).supervision.homingCount = s.supervision.homingCount - n ∧
    (s.lowerHoming n).supervision.homingLimit = s.supervision.homingLimit ∧
    ∀ k, (s.lowerHoming n).watch k = s.watch k :=
  ⟨rfl, rfl, rfl, fun _ => rfl⟩

@[simp] theorem setStore_store (st : Store) : (s.setStore st).store = st := rfl

/-! ## A record replaced twice -/

@[simp] theorem setPersonality_setPersonality (i : Nat) (v w : Personality) : (s.setPersonality i v).setPersonality i w = s.setPersonality i w := by
  simp [State.setPersonality]

@[simp] theorem setHeadPatch_setHeadPatch (i : Nat) (v w : HeadPatch) : (s.setHeadPatch i v).setHeadPatch i w = s.setHeadPatch i w := by
  simp [State.setHeadPatch]

@[simp] theorem setGroup_setGroup (i : Nat) (v w : BitVec 512) : (s.setGroup i v).setGroup i w = s.setGroup i w := by
  simp [State.setGroup]

@[simp] theorem setList_setList (i : Nat) (v w : Option CueList) : (s.setList i v).setList i w = s.setList i w := by
  simp [State.setList]

@[simp] theorem setLayer_setLayer (i : Nat) (v w : Layer) : (s.setLayer i v).setLayer i w = s.setLayer i w := by
  simp [State.setLayer]

@[simp] theorem setMotion_setMotion (i : Nat) (v w : Option Motion) : (s.setMotion i v).setMotion i w = s.setMotion i w := by
  simp [State.setMotion]

@[simp] theorem setZone_setZone (i : Nat) (v w : Zone) : (s.setZone i v).setZone i w = s.setZone i w := by
  simp [State.setZone]

@[simp] theorem setGenerator_setGenerator (i : Nat) (v w : Generator) : (s.setGenerator i v).setGenerator i w = s.setGenerator i w := by
  simp [State.setGenerator]

@[simp] theorem setTrigger_setTrigger (i : Nat) (v w : Trigger) : (s.setTrigger i v).setTrigger i w = s.setTrigger i w := by
  simp [State.setTrigger]

@[simp] theorem setLine_setLine (i : Nat) (v w : Line) : (s.setLine i v).setLine i w = s.setLine i w := by
  simp [State.setLine]

@[simp] theorem setWatch_setWatch (i : Nat) (v w : Watch) : (s.setWatch i v).setWatch i w = s.setWatch i w := by
  simp [State.setWatch]

end Sys2Proof.Machine
end

