-- ==== Sys2Proof/Laws/Ops.lean ====
section
/-! SUPPORT. One lemma for each shared operation: what it answers, and what it leaves as it was. -/

namespace Sys2Proof.Machine

open Sys2Proof

/-! ## Arithmetic -/

theorem clamp_le (lo hi : Nat) (v : Int) (h : lo ≤ hi) : clamp lo hi v ≤ hi := by
  unfold clamp; split
  · exact h
  · split <;> omega

theorem le_clamp (lo hi : Nat) (v : Int) (h : lo ≤ hi) : lo ≤ clamp lo hi v := by
  unfold clamp; split
  · exact le_refl _
  · split <;> omega

/-- A value within its range is kept. -/
theorem clamp_of_clamps (lo hi : Nat) (v : Int) (h : clamps lo hi v = false) : (clamp lo hi v : Int) = v := by
  simp only [clamps, Bool.or_eq_false_iff, decide_eq_false_iff_not] at h
  unfold clamp
  rw [if_neg h.1, if_neg h.2]
  omega

theorem isqrtFrom_spec (b r n : Nat) (h : r * r ≤ n) (hb : n < (r + 2 ^ b) * (r + 2 ^ b)) :
    isqrtFrom b r n * isqrtFrom b r n ≤ n ∧ n < (isqrtFrom b r n + 1) * (isqrtFrom b r n + 1) := by
  induction b generalizing r with
  | zero => exact ⟨h, by simpa [isqrtFrom] using hb⟩
  | succ b ih =>
    simp only [isqrtFrom]
    split
    · next c =>
      refine ih _ c ?_
      have e : r + 2 ^ b + 2 ^ b = r + 2 ^ (b + 1) := by rw [pow_succ]; omega
      rw [e]; exact hb
    · next c => exact ih _ h (Nat.lt_of_not_le c)

/-- 00_scope: the integer square root is the largest integer whose square does not exceed the number. -/
theorem isqrt_spec (n : Nat) : isqrt n * isqrt n ≤ n ∧ n < (isqrt n + 1) * (isqrt n + 1) := by
  refine isqrtFrom_spec _ 0 n (by omega) ?_
  have h1 : n < 2 ^ (n.log2 + 1) := Nat.lt_log2_self
  have h2 : 2 ^ (n.log2 + 1) ≤ 2 ^ (n.log2 / 2 + 1) * 2 ^ (n.log2 / 2 + 1) := by
    rw [← pow_add]; exact Nat.pow_le_pow_right (by omega) (by omega)
  simpa using lt_of_lt_of_le h1 h2

theorem mem_putBy {α : Type} (key : α → Nat) (x : α) (l : List α) (e : α) (h : e ∈ putBy key x l) :
    e = x ∨ e ∈ l := by
  induction l with
  | nil => simpa [putBy] using h
  | cons y ys ih =>
    simp only [putBy] at h
    split at h
    · simpa using h
    · split at h
      · rcases List.mem_cons.mp h with rfl | h
        · exact .inl rfl
        · exact .inr (List.mem_cons_of_mem _ h)
      · rcases List.mem_cons.mp h with rfl | h
        · exact .inr (by simp)
        · exact (ih h).imp id (List.mem_cons_of_mem _)

/-- A list that ascends by its key still does after an element was put at its place. -/
theorem putBy_sorted {α : Type} (key : α → Nat) (x : α) (l : List α)
    (h : l.Pairwise (fun a b => key a < key b)) : (putBy key x l).Pairwise (fun a b => key a < key b) := by
  induction l with
  | nil => simp [putBy]
  | cons y ys ih =>
    rw [List.pairwise_cons] at h
    simp only [putBy]
    split
    · next c =>
      refine .cons (fun b hb => ?_) (.cons h.1 h.2)
      rcases List.mem_cons.mp hb with rfl | hb
      · exact c
      · exact lt_trans c (h.1 b hb)
    · split
      · next c => exact .cons (fun b hb => c ▸ h.1 b hb) h.2
      · next c1 c2 =>
        refine .cons (fun b hb => ?_) (ih h.2)
        rcases mem_putBy key x ys b hb with rfl | hb
        · omega
        · exact h.1 b hb

variable (s : State)

/-! ## Notices, the transmit arbiter and replies -/

/-- A notice changes the link alone. -/
@[simp] theorem notify_fields (n : Notice) :
    (s.notify n).now = s.now ∧ (s.notify n).startUp = s.startUp ∧ (s.notify n).store = s.store ∧
    (s.notify n).patch = s.patch ∧ (s.notify n).cues = s.cues ∧ (s.notify n).playback = s.playback ∧
    (s.notify n).merge = s.merge ∧ (s.notify n).limiter = s.limiter ∧ (s.notify n).zones = s.zones ∧
    (s.notify n).effects = s.effects ∧ (s.notify n).inputs = s.inputs ∧ (s.notify n).lines = s.lines ∧
    (s.notify n).supervision = s.supervision ∧ (s.notify n).pending = s.pending := by
  unfold State.notify; split <;> simp

/-- What is read of the state, but for the link, is as before a notice. -/
@[simp] theorem notify_reads (v : Notice) :
    (∀ p, (s.notify v).personality p = s.personality p) ∧ (∀ h, (s.notify v).headPatch h = s.headPatch h) ∧
    (∀ h, (s.notify v).placement h = s.placement h) ∧ (∀ h, (s.notify v).patched h = s.patched h) ∧
    (∀ h, (s.notify v).personalityOf h = s.personalityOf h) ∧ (∀ g, (s.notify v).group g = s.group g) ∧
    (∀ n, (s.notify v).slotCount n = s.slotCount n) ∧ (∀ n, (s.notify v).headsOn n = s.headsOn n) ∧
    (∀ h, (s.notify v).lastSlot h = s.lastSlot h) ∧ (s.notify v).patchedHeads = s.patchedHeads ∧
    (∀ n, (s.notify v).list n = s.list n) ∧ (s.notify v).freeCues = s.freeCues ∧
    (s.notify v).freeEntries = s.freeEntries ∧ (∀ k, (s.notify v).layer k = s.layer k) ∧
    (s.notify v).freeSlots = s.freeSlots ∧ (∀ h, (s.notify v).motion h = s.motion h) ∧
    (∀ z, (s.notify v).zone z = s.zone z) ∧ (∀ g, (s.notify v).generator g = s.generator g) ∧
    (∀ n, (s.notify v).trigger n = s.trigger n) ∧ (∀ n, (s.notify v).line n = s.line n) ∧
    (∀ h, (s.notify v).watch h = s.watch h) ∧ (s.notify v).storeBusy = s.storeBusy ∧
    (s.notify v).loading = s.loading ∧ (s.notify v).showTime = s.showTime := by
  unfold State.notify
  split <;>
    exact
      ⟨fun _ => rfl, fun _ => rfl, fun _ => rfl, fun _ => rfl, fun _ => rfl, fun _ => rfl, fun _ => rfl,
      fun _ => rfl, fun _ => rfl, rfl, fun _ => rfl, rfl, rfl, fun _ => rfl, rfl, fun _ => rfl, fun _ =>
      rfl, fun _ => rfl, fun _ => rfl, fun _ => rfl, fun _ => rfl, rfl, rfl, rfl⟩

/-- R172: the queue stays within its capacity, and the rest of the link is left but for the lost mark. -/
theorem notify_bounded (n : Notice) (h : s.link.notices.length ≤ Config.noticeCapacity) :
    (s.notify n).link.notices.length ≤ Config.noticeCapacity := by
  unfold State.notify; split
  · next c => simp; omega
  · exact h

@[simp] theorem notify_link (n : Notice) :
    (s.notify n).link.replies = s.link.replies ∧ (s.notify n).link.inFlight = s.link.inFlight ∧
    (s.notify n).link.sending = s.link.sending ∧ (s.notify n).link.assembler = s.link.assembler := by
  unfold State.notify; split <;> simp

/-- R171: the transmit arbiter changes the link alone. -/
@[simp] theorem startTransmit_fields :
    s.startTransmit.now = s.now ∧ s.startTransmit.startUp = s.startUp ∧ s.startTransmit.store = s.store ∧
    s.startTransmit.patch = s.patch ∧ s.startTransmit.cues = s.cues ∧
    s.startTransmit.playback = s.playback ∧ s.startTransmit.merge = s.merge ∧
    s.startTransmit.limiter = s.limiter ∧ s.startTransmit.zones = s.zones ∧
    s.startTransmit.effects = s.effects ∧ s.startTransmit.inputs = s.inputs ∧
    s.startTransmit.lines = s.lines ∧ s.startTransmit.supervision = s.supervision ∧
    s.startTransmit.pending = s.pending := by
  unfold State.startTransmit; split <;> simp

/-- What is read of the state, but for the link, is as before the transmit arbiter looked. -/
@[simp] theorem startTransmit_reads :
    (∀ p, s.startTransmit.personality p = s.personality p) ∧
    (∀ h, s.startTransmit.headPatch h = s.headPatch h) ∧ (∀ h, s.startTransmit.placement h = s.placement h) ∧
    (∀ h, s.startTransmit.patched h = s.patched h) ∧
    (∀ h, s.startTransmit.personalityOf h = s.personalityOf h) ∧ (∀ g, s.startTransmit.group g = s.group g) ∧
    (∀ n, s.startTransmit.slotCount n = s.slotCount n) ∧ (∀ n, s.startTransmit.headsOn n = s.headsOn n) ∧
    (∀ h, s.startTransmit.lastSlot h = s.lastSlot h) ∧ s.startTransmit.patchedHeads = s.patchedHeads ∧
    (∀ n, s.startTransmit.list n = s.list n) ∧ s.startTransmit.freeCues = s.freeCues ∧
    s.startTransmit.freeEntries = s.freeEntries ∧ (∀ k, s.startTransmit.layer k = s.layer k) ∧
    s.startTransmit.freeSlots = s.freeSlots ∧ (∀ h, s.startTransmit.motion h = s.motion h) ∧
    (∀ z, s.startTransmit.zone z = s.zone z) ∧ (∀ g, s.startTransmit.generator g = s.generator g) ∧
    (∀ n, s.startTransmit.trigger n = s.trigger n) ∧ (∀ n, s.startTransmit.line n = s.line n) ∧
    (∀ h, s.startTransmit.watch h = s.watch h) ∧ s.startTransmit.storeBusy = s.storeBusy ∧
    s.startTransmit.loading = s.loading ∧ s.startTransmit.showTime = s.showTime := by
  unfold State.startTransmit
  split <;>
    exact
      ⟨fun _ => rfl, fun _ => rfl, fun _ => rfl, fun _ => rfl, fun _ => rfl, fun _ => rfl, fun _ => rfl,
      fun _ => rfl, fun _ => rfl, rfl, fun _ => rfl, rfl, rfl, fun _ => rfl, rfl, fun _ => rfl, fun _ =>
      rfl, fun _ => rfl, fun _ => rfl, fun _ => rfl, fun _ => rfl, rfl, rfl, rfl⟩

/-- R172: the transmit arbiter only takes notices from the queue. -/
theorem startTransmit_bounded (h : s.link.notices.length ≤ Config.noticeCapacity) :
    s.startTransmit.link.notices.length ≤ Config.noticeCapacity := by
  unfold State.startTransmit; split
  · exact h
  · exact h
  · next e => simp_all; omega
  · exact h

@[simp] theorem setDouseLatch_fields (v : Bool) (c : DouseCause) :
    (s.setDouseLatch v c).now = s.now ∧ (s.setDouseLatch v c).startUp = s.startUp ∧
    (s.setDouseLatch v c).store = s.store ∧ (s.setDouseLatch v c).patch = s.patch ∧
    (s.setDouseLatch v c).cues = s.cues ∧ (s.setDouseLatch v c).playback = s.playback ∧
    (s.setDouseLatch v c).limiter = s.limiter ∧ (s.setDouseLatch v c).zones = s.zones ∧
    (s.setDouseLatch v c).effects = s.effects ∧ (s.setDouseLatch v c).inputs = s.inputs ∧
    (s.setDouseLatch v c).lines = s.lines ∧ (s.setDouseLatch v c).supervision = s.supervision ∧
    (s.setDouseLatch v c).pending = s.pending := by
  unfold State.setDouseLatch; split <;> simp

@[simp] theorem setDouseLatch_merge (v : Bool) (c : DouseCause) :
    (s.setDouseLatch v c).merge = { s.merge with douseLatch := v } := by
  unfold State.setDouseLatch; split
  · next h => subst h; rfl
  · simp

/-! ## Commands and requests -/

/-- A command is always carried out whole. -/
@[simp] theorem command_eq (t : Nat) (f : State → State) :
    command t f s = .next (f (s.advance t)).startTransmit := rfl

/-- R169: a request that passes the link's checks is handed to its owner. -/
theorem handle_of_admits (tag kind : Byte) (always : Bool) (own : Owner) (h : s.admits tag = true) :
    s.handle tag kind always own = s.serve tag kind own := by
  simp only [State.admits, Bool.and_eq_true, decide_eq_true_eq, Bool.not_eq_eq_eq_not, Bool.not_true,
    decide_eq_false_iff_not] at h
  unfold State.handle
  rw [if_neg (by omega), if_neg (by simp [h.1.2]), if_neg h.2]

/-- R169: an admitted request whose owner replies: its state, and an immediate reply. -/
theorem request_reply (t : Nat) (tag kind : Byte) (own : Owner) (s' : State) (st : Status) (b : ReplyBody)
    (h : s.admits tag = true) (ho : own tag (s.advance t) = (s', .reply st b)) :
    request t tag kind own s = .next (s'.answered kind tag st b) := by
  simp only [request, command_eq]
  rw [handle_of_admits _ _ _ _ _ (by simpa using h), State.serve, ho]
  rfl

/-- R169, R170: an admitted request whose reply is deferred: its tag joins the in-flight set. -/
theorem request_deferred (t : Nat) (tag kind : Byte) (own : Owner) (s' : State)
    (h : s.admits tag = true) (ho : own tag (s.advance t) = (s', .deferred)) :
    request t tag kind own s =
      .next (s'.deferredTag tag).startTransmit := by
  simp only [request, command_eq]
  rw [handle_of_admits _ _ _ _ _ (by simpa using h), State.serve, ho]

/-- Every request is carried out whole. -/
theorem request_next (t : Nat) (tag kind : Byte) (own : Owner) : ∃ u, request t tag kind own s = .next u :=
  ⟨_, rfl⟩

/-! ## The lines -/

/-- R140, R141: a decision changes the lines alone. -/
@[simp] theorem decideTurn_fields (l : Nat) :
    (s.decideTurn l).now = s.now ∧ (s.decideTurn l).startUp = s.startUp ∧ (s.decideTurn l).link = s.link ∧
    (s.decideTurn l).store = s.store ∧ (s.decideTurn l).patch = s.patch ∧ (s.decideTurn l).cues = s.cues ∧
    (s.decideTurn l).playback = s.playback ∧ (s.decideTurn l).merge = s.merge ∧
    (s.decideTurn l).limiter = s.limiter ∧ (s.decideTurn l).zones = s.zones ∧
    (s.decideTurn l).effects = s.effects ∧ (s.decideTurn l).inputs = s.inputs ∧
    (s.decideTurn l).supervision = s.supervision ∧ (s.decideTurn l).pending = s.pending := by
  unfold State.decideTurn; split <;> simp [State.startRefresh, State.startExchange]

/-- R140: a decision on a line leaves every other line as it was. -/
theorem decideTurn_other (l k : Nat) (h : k ≠ l) : (s.decideTurn l).line k = s.line k := by
  unfold State.decideTurn; split <;> simp [State.startRefresh, State.startExchange, h]

/-- R140: a decision keeps a line's settings, its timers of the audit and its cursor. -/
theorem decideTurn_settings (l k : Nat) : ((s.decideTurn l).line k).settings = (s.line k).settings := by
  by_cases h : k = l
  · subst h; unfold State.decideTurn
    split <;> simp [State.startRefresh, State.startExchange]
  · rw [decideTurn_other s l k h]

/-- R140: a line that is not IDLE or is disabled is granted nothing. -/
theorem decideTurn_busy (l : Nat) (h : (s.line l).turn ≠ .idle ∨ (s.line l).settings.enabled = false) :
    s.decideTurn l = s := by
  unfold State.decideTurn Line.grant
  rw [if_pos (by simpa using h)]

/-- R143: an entry is added where the line accepts it, and then only. -/
theorem addQuery_eq (l : Nat) (e : QueryEntry) :
    s.addQuery l e =
      if (s.line l).accepts then
        some ((s.setLine l { s.line l with queue := (s.line l).queue ++ [e] }).decideTurn l)
      else none := rfl

/-- R143: adding an entry changes the lines alone. -/
theorem addQuery_fields (l : Nat) (e : QueryEntry) (s' : State) (h : s.addQuery l e = some s') :
    s'.now = s.now ∧ s'.startUp = s.startUp ∧ s'.link = s.link ∧ s'.store = s.store ∧ s'.patch = s.patch ∧
    s'.cues = s.cues ∧ s'.playback = s.playback ∧ s'.merge = s.merge ∧ s'.limiter = s.limiter ∧
    s'.zones = s.zones ∧ s'.effects = s.effects ∧ s'.inputs = s.inputs ∧ s'.supervision = s.supervision ∧
    s'.pending = s.pending := by
  unfold State.addQuery at h
  split at h
  · obtain rfl := Option.some.inj h; simp
  · cases h

/-! ## Supervision -/

/-- R164: a change of condition changes supervision and the link alone. -/
@[simp] theorem moveCondition_fields (h : Nat) (w : Watch) (c : ConditionCause) :
    (s.moveCondition h w c).now = s.now ∧ (s.moveCondition h w c).startUp = s.startUp ∧
    (s.moveCondition h w c).store = s.store ∧ (s.moveCondition h w c).patch = s.patch ∧
    (s.moveCondition h w c).cues = s.cues ∧ (s.moveCondition h w c).playback = s.playback ∧
    (s.moveCondition h w c).merge = s.merge ∧ (s.moveCondition h w c).limiter = s.limiter ∧
    (s.moveCondition h w c).zones = s.zones ∧ (s.moveCondition h w c).effects = s.effects ∧
    (s.moveCondition h w c).inputs = s.inputs ∧ (s.moveCondition h w c).lines = s.lines ∧
    (s.moveCondition h w c).pending = s.pending := by
  unfold State.moveCondition; dsimp only; split <;> simp

/-- R160: one head of the walk changes the lines and supervision alone. -/
@[simp] theorem dispatchHead_fields (h : Nat) :
    (s.dispatchHead h).now = s.now ∧ (s.dispatchHead h).startUp = s.startUp ∧
    (s.dispatchHead h).link = s.link ∧ (s.dispatchHead h).store = s.store ∧
    (s.dispatchHead h).patch = s.patch ∧ (s.dispatchHead h).cues = s.cues ∧
    (s.dispatchHead h).playback = s.playback ∧ (s.dispatchHead h).merge = s.merge ∧
    (s.dispatchHead h).limiter = s.limiter ∧ (s.dispatchHead h).zones = s.zones ∧
    (s.dispatchHead h).effects = s.effects ∧ (s.dispatchHead h).inputs = s.inputs ∧
    (s.dispatchHead h).pending = s.pending := by
  unfold State.dispatchHead
  split
  · split
    · simp
    · split
      · simp
      · next e => have := addQuery_fields s _ _ _ e; simp [this]
  · simp

/-- R160: the dispatch changes the lines and supervision alone. -/
@[simp] theorem dispatch_fields :
    s.dispatch.now = s.now ∧ s.dispatch.startUp = s.startUp ∧ s.dispatch.link = s.link ∧
    s.dispatch.store = s.store ∧ s.dispatch.patch = s.patch ∧ s.dispatch.cues = s.cues ∧
    s.dispatch.playback = s.playback ∧ s.dispatch.merge = s.merge ∧ s.dispatch.limiter = s.limiter ∧
    s.dispatch.zones = s.zones ∧ s.dispatch.effects = s.effects ∧ s.dispatch.inputs = s.inputs ∧
    s.dispatch.pending = s.pending := by
  unfold State.dispatch
  generalize s.supervision.rehomeQueue = q
  induction q generalizing s with
  | nil => simp
  | cons h q ih =>
    rw [List.foldl_cons]
    have := ih (s.dispatchHead h)
    simpa using this

/-! ## Takes -/

/-- R41 to R44: what an accepted GO is. -/
theorem goTake_taken (l : Nat) (s' : State) (i : TakeInfo) (h : s.goTake l = .taken s' i) :
    s.loading = false ∧ l < Config.layers ∧ ∃ c, (s.layer l).nextCue (s.layerCues l) = some c ∧ i.cue = c.number ∧
      slotsNeeded (s.layer l).slots (s.cueWants c) ≤ s.freeSlots ∧
      s' = s.writeTake l c (s.takenSlots (s.layer l).slots c (s.cueWants c) (s.layer l).slots) := by
  unfold State.goTake at h
  split at h
  · cases h
  · next h1 =>
    split at h
    · cases h
    · next h2 =>
      split at h
      · cases h
      · split at h
        · cases h
        · next c hc =>
          unfold State.takeCue at h
          dsimp only at h
          split at h
          · cases h
          · next h3 =>
            simp only [TakeResult.taken.injEq] at h
            obtain ⟨rfl, rfl⟩ := h
            exact ⟨by simpa using h1, by omega, c, hc, rfl, by omega, rfl⟩

/-! ## Counts that run out -/

/-- R109: what a quarter-beat does to a running generator. -/
theorem quarter_of_running (g : Generator) (h : g.running = true) :
    g.quarter = if g.rate ≤ g.count + 1 then ⟨g.rate, true, !g.on, 0⟩ else { g with count := g.count + 1 } := by
  unfold Generator.quarter Generator.toggles Generator.toggle
  rw [h]
  by_cases c : g.rate ≤ g.count + 1
  · simp [c]
  · simp [c]

/-- R109: a generator that does not run is passed over. -/
theorem quarter_of_stopped (g : Generator) (h : g.running = false) : g.quarter = g := by
  simp [Generator.quarter, Generator.toggles, h]

/-- R45: a countdown that has run out, of a layer that counts. -/
theorem followDue_iff (y : Layer) : y.followDue = true ↔ y.counts = true ∧ ∃ f, y.followMs = some f ∧ f ≤ 4 := by
  unfold Layer.followDue
  cases y.followMs with
  | none => simp
  | some f =>
    show (y.counts && decide (f ≤ 4)) = true ↔ _
    simp

/-- R48: a beat count that has run out, of a layer that chases. -/
theorem chaseDue_iff (y : Layer) :
    y.chaseDue = true ↔ y.chases = true ∧ y.settings.chaseBeats ≤ y.chaseCount + 1 := by
  simp [Layer.chaseDue]

end Sys2Proof.Machine
end

