-- ==== Sys2Proof/Laws/Frames.lean ====
section
/-! SUPPORT. What the bytes of a field and of a sent frame are, said once (R166). -/

namespace Sys2Proof.Machine

open Sys2Proof

@[simp] theorem length_toBytes (w n : Nat) : (toBytes w n).length = w := by
  induction w generalizing n with
  | zero => rfl
  | succ w ih => simp [toBytes, ih]

@[simp] theorem length_signedBytes (w : Nat) (v : Int) : (signedBytes w v).length = w :=
  length_toBytes _ _

/-- A byte at the end of a field counts once, those before it 256 times. -/
theorem ofBytes_append_one (l : List Byte) (b : Byte) : ofBytes (l ++ [b]) = ofBytes l * 256 + b.toNat := by
  simp [ofBytes]

theorem fieldBytes_nil (kind : Byte) (place : Nat) : fieldBytes kind place [] = [] := rfl

/-- The frame of a reply that carries its status byte alone. -/
theorem frame_bare (kind tag : Byte) (status : Status) (immediate : Bool) :
    (Outgoing.reply ⟨kind, tag, status, .bare, immediate⟩).frame = frameBytes kind tag [status.code] := rfl

/-- A frame is seven bytes longer than its body. -/
theorem length_frameBytes (kind tag : Byte) (body : List Byte) : (frameBytes kind tag body).length = body.length + 7 := by
  simp [frameBytes, frameCore, bytes16]

@[simp] theorem length_frame (o : Outgoing) : o.frame.length = o.body.length + 7 :=
  length_frameBytes _ _ _

end Sys2Proof.Machine
end

