-- ==== Sys2Proof/Tests/Slice0.lean ====
section
/-! SUPPORT. The model's own tests: the well-formedness checks refuse what they should, worked examples of the spec, and for
every statement with hypotheses a state and operands that meet them. -/

namespace Sys2Proof.Tests

open Sys2Proof Sys2Proof.Machine

/-! ## The smoke test of WellFormed -/

theorem test_frame_whole : (Instr.requestFrame 0 (frameBytes 0x40#8 7#8 [9#8])).wellFormed = true := by
  decide +kernel

theorem test_frame_with_a_wrong_check :
    (Instr.requestFrame 0 [0xC3#8, 0#8, 1#8, 0x40#8, 7#8, 9#8, 0#8, 0#8]).wellFormed = false := by
  decide +kernel

theorem test_frame_cut_short : (Instr.requestFrame 0 [0xC3#8, 0#8]).wellFormed = false := by decide

theorem test_message_out_of_range : (Instr.timecodeMessage 0 [0xA5#8, 24#8, 0#8, 0#8, 0#8, 24#8]).wellFormed = false := by decide

theorem test_message_valid : (Instr.timecodeMessage 0 [0xA5#8, 23#8, 59#8, 59#8, 29#8, 170#8]).wellFormed = true := by decide

def oneEntry : EntryReq := ⟨61, some 1000, none, some 40000#16, none⟩

def smallCue : CueReq := ⟨1, 10#16, 2000, 0, 0, 0, none, none, [oneEntry], false⟩

theorem test_cue_fits : (Instr.storeCue 0 1#8 smallCue).wellFormed = true := by decide

theorem test_cue_with_a_negative_time : (Instr.storeCue 0 1#8 { smallCue with fadeMs := -1 }).wellFormed = false := by decide

theorem test_append_with_a_head_too_large :
    (Instr.appendEntries 0 1#8 1 10#16 [{ oneEntry with head := 70000 }] false).wellFormed = false := by decide

def channels : List RoleReq :=
  [⟨some .pan, 0, 16, 0⟩, ⟨some .tilt, 2, 16, 0⟩, ⟨some .dimmer, 4, 8, 0⟩, ⟨some .shutter, 5, 8, 0⟩,
    ⟨some .emitter1, 6, 16, 0⟩, ⟨some .emitter2, 8, 16, 0⟩, ⟨some .emitter3, 10, 16, 0⟩, ⟨some .emitter4, 12, 16, 0⟩,
    ⟨some .control, 14, 8, 0⟩]

/-- The personality of the worked examples (R2, R116), as a request. -/
def spotReq : PersonalityReq where
  id := 3
  panRange := 54000
  tiltRange := 27000
  system := some .additiveRgbw
  gains := [65535#16, 65535#16, 65535#16, 65535#16]
  shutterOpen := 255#8
  shutterClosed := 0#8
  feedback := some true
  defaultSpeed := 200
  defaultAccel := 20
  roles := channels

theorem test_personality_fits : (Instr.definePersonality 0 1#8 spotReq).wellFormed = true := by decide

theorem test_personality_with_five_gains :
    (Instr.definePersonality 0 1#8 { spotReq with gains := 0#16 :: spotReq.gains }).wellFormed = false := by decide

def headReq : HeadReq := ⟨61, some ⟨true, false, true⟩, 0, 27000, 60000, 0, ⟨0#16, 0#16, 65535#16⟩, 300#16⟩

theorem test_head_fits : (Instr.setHead 0 1#8 headReq).wellFormed = true := by decide

theorem test_head_out_of_its_field : (Instr.setHead 0 1#8 { headReq with head := 65536 }).wellFormed = false := by decide

theorem test_mask_out_of_its_field : (Instr.setMask 0 1#8 256).wellFormed = false ∧ (Instr.setMask 0 1#8 255).wellFormed = true := by
  decide

theorem test_layer_out_of_its_field : (Instr.go 0 1#8 256).wellFormed = false := by decide

theorem test_trigger_with_a_layer_out_of_its_field :
    (Instr.setTrigger 0 1#8 0 (some (.go 256)) 1).wellFormed = false := by decide

theorem test_blink_target_out_of_its_field :
    (Instr.setBlinkAssignment 0 1#8 (some (.head 65536)) none (some .both)).wellFormed = false := by decide

theorem test_line_out_of_its_field :
    (Instr.configureLine 0 1#8 ⟨5, some true, 65536, 4, 200⟩).wellFormed = false
      ∧ (Instr.configureLine 0 1#8 ⟨5, some true, 100, 4, 200⟩).wellFormed = true := by decide

theorem test_no_word_spells_a_command : decodeTableWord 8 0 = none := by decide

/-! ## Worked examples of the spec -/

/-- R166: the check of the nine characters 1 to 9. -/
theorem test_crc_of_the_example :
    crc [0x31#8, 0x32#8, 0x33#8, 0x34#8, 0x35#8, 0x36#8, 0x37#8, 0x38#8, 0x39#8] = 0x29B1#16 := by
  decide +kernel

/-- R80: braking bounds of the worked example. -/
theorem test_braking_bounds : [3500, 2400, 1000, 800, 620, 460, 320, 200, 100, 20].map (fun d => isqrt (40 * d))
    = [374, 309, 200, 178, 157, 135, 113, 89, 63, 28] := by decide

/-- R80 to R83: steps 1, 19 and 25 of the worked example. -/
theorem test_limiter_steps :
    stepAxis 200 20 54000 13500 ⟨10000, 0⟩ = ⟨10020, 20⟩ ∧ stepAxis 200 20 54000 13500 ⟨12700, 200⟩ = ⟨12880, 180⟩
      ∧ stepAxis 200 20 54000 13500 ⟨13480, 80⟩ = ⟨13500, 0⟩ ∧ stepAxis 200 20 54000 13500 ⟨13400, 60⟩ = ⟨13463, 63⟩ := by
  decide

/-- R82, R83: a target that jumps onto a moving head, and the range clamp. -/
theorem test_limiter_overshoot_and_clamp :
    stepAxis 200 20 54000 20000 ⟨20000, -80⟩ = ⟨19940, -60⟩ ∧ stepAxis 200 20 54000 20000 ⟨19988, 48⟩ = ⟨20000, 0⟩
      ∧ stepAxis 200 20 54000 53980 ⟨53980, 60⟩ = ⟨54000, 0⟩ := by
  decide

/-- R116: the worked example's channel values. -/
theorem test_channel_values : sentValue 13500 54000 false = 16384 ∧ sentValue 6750 27000 true = 49151 := by decide

/-- R61, R114: scaling. -/
theorem test_scaling : [48000, 18000, 0, 12000].map (fun e => scale e 32768) = [24000, 9000, 0, 6000]
    ∧ scale 32767 60000 = 30000 := by decide

/-- R38: a fade from 10,000 down to 0 over 3,000 ms after a delay of 1,000 ms. -/
theorem test_fade_value :
    [0, 1000, 2000, 4000].map (fun e => (Slot.mk 1 .intensity (.scalar 10000) (.scalar 0) 1000 3000 e .none).value)
      = [.scalar 10000, .scalar 10000, .scalar 6667, .scalar 0] := by decide

/-- R176: the length and the pages of an image. -/
theorem test_image_size : imageBytes 0 0 = 38720 ∧ imagePages 38720 = 152 := by decide

/-- R127: the last frame of the day. -/
theorem test_last_frame_of_the_day : timecodeFrame [0xA5#8, 23#8, 59#8, 59#8, 29#8, 170#8] = some 2591999 := by decide

/-! ## States the witnesses use -/

/-- A part that has started up without an image. -/
def ready : State := { State.reset with startUp := .ready .empty }

/-- The stored personality of the worked examples. -/
def spot : Personality := storedPersonality spotReq .additiveRgbw true

/-- Head 61 of personality 3 on line 5 at slot 31, at rest at home, a member of group 10. -/
def rig : State :=
  ((((ready.setPersonality 3 spot).setHeadPatch 61 (HeadPatch.seeded ⟨3, 5, 31⟩ spot)).setMotion 61
    (some ⟨⟨27000, 0⟩, ⟨13500, 0⟩, 500⟩)).setGroup 10 (BitVec.ofNat 512 (2 ^ 61)))

def cueTen : Cue := ⟨10, 2000, 4000, 0, 0, none, none, [⟨61, some 1000, none, some 40000, none⟩]⟩

def cueTwenty : Cue := ⟨20, 0, 0, 0, 0, some 5000, none, [⟨61, none, some 2000, none, none⟩]⟩

/-- The rig with a list of two cues, assigned to layer 11. -/
def cued : State :=
  (rig.setList 63 (some ⟨false, [cueTen, cueTwenty]⟩)).setLayer 11
    { Layer.powerOn with settings.list := some 63 }

/-- Layer 11 running cue 10. -/
def running : Layer :=
  { Layer.powerOn with
    settings.list := some 63
    state := .running
    currentCue := some 10
    followMs := some 8
    slots := [⟨61, .pan, .scalar 27000, .scalar 1000, 0, 4000, 0, .none⟩, ⟨61, .intensity, .scalar 0, .scalar 40000, 0, 2000, 0, .none⟩] }

def playing : State :=
  { cued.setLayer 11 running with playback.takeStack := [11] }

/-- Layer 11 running in CHASE mode, with its chase beats and its count. -/
def chasing (beats count : Nat) : Layer :=
  { running with settings := { running.settings with mode := .chase, chaseBeats := beats }, chaseCount := count }

/-- The layer of `playing` with another layer state. -/
def layerIn (st : LayerState) (from? : Option PausedFrom) : State :=
  playing.setLayer 11 { running with state := st, pausedFrom := from? }

/-- The effect of a command that answers a next state. -/
def after (c : Instr) (s : State) : State :=
  match exec c s with
  | .next u => u
  | .fault _ => s
  | .refused _ => s

/-- A state with a SAVE in flight. -/
def saving : State := { rig with store.activity := .saving 9#8 rig.capture }

/-- A state with a LOAD in flight of an image saved from `cued`. -/
def loading : State :=
  { rig with store := ⟨.written, cued.capture.check, cued.capture.check, some cued.capture, .loading 9#8⟩ }

/-- A state with a LOAD in flight of an image saved from `cued`, its check 7. -/
def loadingSeven (s : State) : State := { s with store := ⟨.written, 7#32, 7#32, some cued.capture, .loading 9#8⟩ }

/-- A state whose store holds a valid image. -/
def stored : State :=
  { rig with store := ⟨.written, cued.capture.check, cued.capture.check, some cued.capture, .idle⟩ }

/-- The rig with the zone write enable SET. -/
def enabled : State := rig.withZoneWrite true

/-- A STARTING part with a state word and an image. -/
def starting (w : StateWord) (i : Option Image) : State := { State.reset with store := ⟨w, 7#32, 0#32, i, .idle⟩ }

/-- A STARTING part whose image's check is the one its bytes give. -/
def startingIntact : State := { State.reset with store := ⟨.written, cued.capture.check, 0#32, some cued.capture, .idle⟩ }

/-- The rig with another record of line 5. -/
def withLine (y : Line) : State := rig.setLine 5 y

/-- A console exchange for head 61 in a phase. -/
def exchangeIn (p : Phase) : Exchange := ⟨⟨61, .status, .routine, .console 4#8⟩, ⟨some (32768, 32768), true⟩, [], p, .kept, false⟩

/-- The rig with another supervision record of head 61. -/
def withWatch (w : Watch) : State := rig.setWatch 61 w

/-- The rig with another beat part. -/
def withBeat (source : BeatSource) (setting : BeatSetting) (previous : Option Nat) (missed : Nat) : State :=
  rig.setBeat { rig.inputs.beat with
    source := source, setting := setting, previousPulse := previous, missed := missed, subdivision := some ⟨125000, 125000, 1⟩ }

/-! ## Small tests of commands -/

theorem test_patch_reply : (after (.patchHead 10 1#8 62 3 5 46) rig).link.sending =
    some (.reply ⟨0x11#8, 1#8, .ok, .patched 15 60 none false, true⟩) := by decide

theorem test_patch_overlap : (after (.patchHead 10 1#8 62 3 5 45) rig).link.sending =
    some (.reply ⟨0x11#8, 1#8, .overlap, .bare, true⟩) := by decide

theorem test_goto_tracks : ((after (.goto 10 1#8 11 20#16) playing).layer 11).slots.map (fun x => (x.attr, x.toVal)) =
    [(.pan, .scalar 1000), (.tilt, .scalar 2000), (.intensity, .scalar 40000)] := by decide

theorem test_zone_needs_its_enable :
    (after (.setZone 10 1#8 ⟨31, 10, some true, 0#32, 80000#32, 0#32, 6000#32⟩) rig).link.sending =
        some (.reply ⟨0x49#8, 1#8, .zoneLocked, .zoneLatch false, true⟩)
      ∧ (after (.setZone 10 1#8 ⟨31, 10, some true, 0#32, 80000#32, 0#32, 6000#32⟩) enabled).link.sending =
        some (.reply ⟨0x49#8, 1#8, .clamped, .zone ⟨true, 10, 0, 72000, 0, 6000⟩ false, true⟩) := by decide

theorem test_two_misses_then_lost :
    ((withWatch { Watch.unpatched with misses := 2 }).handleNoReply 61 .status).watch 61 =
      { Watch.unpatched with misses := 3, condition := .lost } := by decide

theorem test_layer_step :
    ((after (.layerStep 4000) playing).layer 11).slots.map Slot.elapsedMs = [4, 4]
    ∧ ((after (.layerStep 4000) playing).layer 11).followMs = some 4 := by decide +kernel

/-! ## Witnesses: for every statement with hypotheses, a state and operands that meet them -/

theorem witness_step : ({ ready with pending := [.hold 5 1#8] } : State).pending = [.hold 5 1#8] ∧ ready.pending = [] := by decide

/-- The records of `playing`, read by number. -/
theorem playing_reads (n : Nat) :
    playing.layer n = (if n = 11 then running else Layer.powerOn) ∧ playing.line n = Line.powerOn
      ∧ playing.headPatch n = (if n = 61 then HeadPatch.seeded ⟨3, 5, 31⟩ spot else HeadPatch.unpatched) := by
  refine ⟨?_, rfl, ?_⟩
  · rw [show playing.layer n = (cued.setLayer 11 running).layer n from rfl, layer_setLayer]
    split
    · rfl
    · next h => simp [cued, h]; rfl
  · rw [show playing.headPatch n = (ready.setHeadPatch 61 (HeadPatch.seeded ⟨3, 5, 31⟩ spot)).headPatch n from rfl,
      headPatch_setHeadPatch]
    rfl

/-- The first four invariants hold of a state in which a step is made. -/
theorem witness_bounded_registers : playing.NoticesBounded ∧ playing.BeatBounded ∧ playing.LevelsBounded ∧ playing.DouseHeld
    ∧ ∃ u, step { playing with pending := [.limiterStep 4000] } = .next u := by
  refine ⟨?_, ⟨?_, ?_, ?_, ?_, ?_⟩, ⟨?_, ?_⟩, ?_, _, rfl⟩
  · unfold State.NoticesBounded; decide
  all_goals first | decide | (intro h; exact absurd h (by decide))

theorem witness_line_queues : playing.LinesBounded := by
  refine ⟨fun l => ?_, fun i hi => by rw [show playing.store.images = [] from rfl] at hi; cases hi⟩
  rw [(playing_reads l).2.1]
  exact ⟨by decide, by decide, by unfold LineSettings.Waits; decide⟩

theorem witness_take_stack : playing.StackHoldsTaken := by
  refine ⟨by decide, fun l => ?_⟩
  rw [(playing_reads l).1, show playing.playback.takeStack = [11] from rfl]
  by_cases h : l = 11
  · subst h; decide
  · simp [h, Layer.powerOn]

theorem witness_homing : playing.HomingBounded := by
  unfold State.HomingBounded; decide

theorem witness_positions : playing.MotionBounded := by
  refine ⟨fun h q m hq hm => ?_, fun h p q hp hq => ?_, fun i hi => by rw [show playing.store.images = [] from rfl] at hi; cases hi⟩
  · by_cases e : h = 61
    · subst e
      rw [show playing.personalityOf 61 = some spot from by decide] at hq
      rw [show playing.motion 61 = some ⟨⟨27000, 0⟩, ⟨13500, 0⟩, 500⟩ from by decide] at hm
      obtain rfl := Option.some.inj hq
      obtain rfl := Option.some.inj hm
      exact ⟨⟨by decide, by decide⟩, ⟨by decide, by decide⟩⟩
    · unfold State.personalityOf State.placement at hq
      rw [(playing_reads h).2.2] at hq
      simp [e, HeadPatch.unpatched] at hq
  · rw [show Table.get HeadPatch.unpatched playing.patch.heads h = playing.headPatch h from rfl] at hp ⊢
    rw [(playing_reads h).2.2] at hp ⊢
    by_cases e : h = 61
    · rw [if_pos e] at hp ⊢
      obtain rfl := Option.some.inj hp
      rw [show Table.get none playing.patch.personalities 3 = some spot from by decide] at hq
      obtain rfl := Option.some.inj hq
      exact ⟨by decide, by decide⟩
    · simp [e, HeadPatch.unpatched] at hp

theorem witness_whole_frame : (List.replicate 1024 (0xC3#8 : Byte)).length ≤ 1024 ∧ ready.link.assembler = .hunting
    ∧ (0 : Nat) * 256 + 0 ≠ (crc (frameCore 0x41#8 1#8 [])).toNat := by
  refine ⟨by rw [List.length_replicate], by decide, by decide +kernel⟩

/-- A state with as many immediate replies held as the link allows. -/
def fullOfReplies : State :=
  { ready with link.replies := List.replicate 32 ⟨0x41#8, 1#8, .ok, .bare, true⟩ }

/-- Each check of the link meets a frame that it is the first to settle. -/
theorem witness_link_checks :
    32 ≤ fullOfReplies.immediateHeld ∧ fullOfReplies.link.assembler = .hunting ∧ ready.immediateHeld < 32
      ∧ requestKinds.find? (fun r => r.code == 0x00#8) = none
      ∧ (∃ r, requestKinds.find? (fun r => r.code == 0x30#8) = some r ∧ r.parse [] = none ∧ (r.parse [11#8]).isSome = true)
      ∧ State.reset.startUp = .starting ∧ (1#8 : Byte) ∈ ({ ready with link.inFlight := [1#8] } : State).link.inFlight
      ∧ (1#8 : Byte) ∉ ready.link.inFlight := by
  refine ⟨by decide, by decide, by decide, by decide, ⟨_, rfl, rfl, rfl⟩, by decide, by decide, by decide⟩

/-- A frame whose body the assembler takes, and values with sign at both ends of a field. -/
theorem witness_sent_frame : (Outgoing.reply ⟨0x41#8, 7#8, .badField, .bare, true⟩).body.length ≤ 1024
    ∧ -(256 ^ 2 : Int) ≤ -65536 ∧ (65535 : Int) < 256 ^ 2 := by
  decide

/-- R166: a bare reply as it is sent and taken again, a velocity in two's complement, and a notice's head. -/
theorem test_sent_bytes :
    assemble ((Outgoing.reply ⟨0x41#8, 7#8, .badField, .bare, true⟩).frame.drop 1) = .frame 0x41#8 7#8 [Status.badField.code]
      ∧ signedBytes 2 (-150) = [0xFF#8, 0x6A#8] ∧ toBytes 4 72000 = [0#8, 1#8, 0x19#8, 0x40#8]
      ∧ (Outgoing.notice (.douse true true .line) true).head = ((Notice.douse true true .line).kindCode, 0#8, 1#8) := by
  decide +kernel

/-- R33, R24: the body of a READ CUE reply with an entry of pan and intensity, its next head absent or not. -/
theorem test_read_cue_bytes :
    (Outgoing.reply ⟨0x27#8, 7#8, .ok, .cue (cueTen.report 0), true⟩).body.length = 32 + 9
      ∧ (Outgoing.reply ⟨0x27#8, 7#8, .ok, .cue ⟨cueTen, 1, some 511⟩, true⟩).body.length = 32 + 9 := by
  simp [Outgoing.body, Outgoing.fields, ReplyBody.fields, CueReport.fields, Cue.report, fitEntries, cueReplyRoom, cueTen,
    Entry.size, entrySize, Entry.fields, fieldBytes, Field.toBytes]

theorem witness_reads : cued.admits 1#8 = true ∧ (511 : Nat) < 512 ∧ (20#16 : BitVec 16) ≠ 0
    ∧ cued.list 63 = some ⟨false, [cueTen, cueTwenty]⟩ ∧ (⟨false, [cueTen, cueTwenty]⟩ : CueList).cue 20 = some cueTwenty := by
  decide

theorem witness_rig_reset : playing.admits 255#8 = true ∧ playing.StackHoldsTaken
    ∧ Table.canonical Layer.powerOn Config.layers playing.playback.layers = true :=
  ⟨by decide, witness_take_stack, by decide⟩

/-- The rig with an exchange of head 61 on line 5, its query frame being sent or its window open, refresh due or not; a refresh frame
on line 6. -/
def exchanging (p : Phase) (d : Discard) (due : Bool) : State :=
  (withLine { Line.powerOn with turn := .exchange { exchangeIn p with discard := d }, refreshDue := due }).setLine 6
    { Line.powerOn with turn := .frame [0#8] }

theorem witness_rig_reset_turns : (exchanging .sending .kept false).admits 1#8 = true
    ∧ (exchanging .sending .kept false).StackHoldsTaken
    ∧ Table.canonical Layer.powerOn Config.layers (exchanging .sending .kept false).playback.layers = true
    ∧ ((exchanging .sending .kept false).line 5).turn = .exchange (exchangeIn .sending)
    ∧ ((exchanging (.window 7) .kept true).line 5).refreshDue = true ∧ 0 < (exchanging (.window 7) .kept true).slotCount 5
    ∧ ((exchanging .sending .kept false).line 6).turn = .frame [0#8] ∧ ((exchanging .sending .kept false).line 0).turn = .idle := by
  refine ⟨by decide, ⟨by decide, fun l => ?_⟩, by decide, by decide, by decide, by decide, by decide, by decide⟩
  rw [show (exchanging .sending .kept false).layer l = Layer.powerOn from rfl]
  simp [Layer.powerOn, show (exchanging .sending .kept false).playback.takeStack = [] from rfl]

/-- R151, R146: a RIG RESET abandons an exchange whose query frame is being sent, which an UNPATCH HEAD taken after it still discards;
one that waits for a reply ends, and the frame that is due starts. -/
theorem test_reset_then_unpatch :
    ((after (.unpatchHead 2 2#8 61) (after (.rigReset 1 1#8) (exchanging .sending .kept false))).line 5).turn =
        .exchange { exchangeIn .sending with abandoned := true, discard := .unpatched false }
      ∧ ((after (.unpatchHead 2 2#8 61) (after (.rigReset 1 1#8) (exchanging .sending .kept false))).line 5).turn.exchangeReport =
        some ⟨61, .status, .console 4#8, true⟩
      ∧ ((after (.rigReset 1 1#8) (exchanging (.window 7) .kept true)).line 5).turn.name = .frame := by
  decide +kernel

theorem witness_starting : State.reset.startUp = .starting ∧ State.reset.immediateHeld < 32 ∧ (1#8 : Byte) ∉ State.reset.link.inFlight
    ∧ (starting .never none).store.word = .never ∧ (starting .writing none).store.word = .writing
    ∧ (starting .written (some cued.capture)).store.word = .written
    ∧ (starting .written (some cued.capture)).store.image = some cued.capture
    ∧ (7#32 : BitVec 32) = (starting .written (some cued.capture)).store.check
    ∧ (8#32 : BitVec 32) ≠ (starting .written (some cued.capture)).store.check := by
  decide +kernel

/-- An image read as it was written: the operand none, and the check the sum. -/
theorem witness_starting_intact : startingIntact.startUp = .starting ∧ startingIntact.store.image = some cued.capture
    ∧ cued.capture.check = startingIntact.store.check :=
  ⟨rfl, rfl, rfl⟩

theorem witness_save_and_load : rig.admits 1#8 = true ∧ rig.storeBusy = false ∧ saving.store.activity = .saving 9#8 rig.capture
    ∧ stored.admits 1#8 = true ∧ stored.store.activity = .idle ∧ (∀ l < 12, (stored.layer l).state = .idle)
    ∧ stored.store.word = .written ∧ stored.store.image.isSome = true ∧ loading.store.activity = .loading 9#8
    ∧ loading.store.image = some cued.capture ∧ (loadingSeven rig).store.activity = .loading 9#8
    ∧ (loadingSeven rig).store.image = some cued.capture ∧ (8#32 : BitVec 32) ≠ (loadingSeven rig).store.check := by
  decide +kernel

theorem witness_valid_image : stored.store.sum = stored.store.check ∧ cued.capture.check = loading.store.check := ⟨rfl, rfl⟩

/-- R176: the image states. -/
theorem test_image_states : (starting .never none).store.imageState = .empty ∧ (starting .writing none).store.imageState = .invalid
    ∧ (loadingSeven rig).store.imageState = .valid ∧ (starting .written (some cued.capture)).store.imageState = .invalid := by
  decide

/-- A LOAD in flight with a line in each turn state, head 62 patched, and head 61 in motion faster than its loaded limit. -/
def busyLoad : State :=
  loadingSeven (((rig.setLine 5 { Line.powerOn with turn := .exchange (exchangeIn (.window 7)) }).setLine 6
    { Line.powerOn with turn := .frame [0#8] }).setMotion 61 (some ⟨⟨9000, 900⟩, ⟨13500, -150⟩, 0⟩))

theorem witness_load : (busyLoad.line 5).turn = .exchange (exchangeIn (.window 7)) ∧ (busyLoad.line 6).turn = .frame [0#8]
    ∧ (busyLoad.line 0).turn = .idle ∧ busyLoad.patched 61 = true ∧ (loadingSeven ready).patched 61 = false
    ∧ (7#32 : BitVec 32) = busyLoad.store.check ∧ (loadingSeven (rig.setPersonality 3 { spot with panRange := 100 })).personalityOf 61
      = some { spot with panRange := 100 } := by
  decide

/-- R91: the limiter's state kept with its velocities cut, created at home, and re-based at home; R151: the exchange discarded. -/
theorem test_load_replaces :
    (after (.loadReplacementPoint 3 (some 7#32)) busyLoad).motion 61 = some ⟨⟨9000, 200⟩, ⟨13500, -150⟩, 0⟩
      ∧ (after (.loadReplacementPoint 3 (some 7#32)) (loadingSeven ready)).motion 61 = some ⟨⟨27000, 0⟩, ⟨13500, 0⟩, 0⟩
      ∧ ((after (.loadReplacementPoint 3 (some 7#32)) busyLoad).line 5).turn =
        .exchange { exchangeIn (.window 7) with discard := .loaded }
      ∧ (after (.loadReplacementPoint 3 (some 8#32)) busyLoad).store.imageState = .invalid := by
  decide +kernel

/-- A SAVE, its end, and a LOAD of the image it left. -/
theorem witness_saved_show : ∃ s1 s2 v, cued.admits 1#8 = true ∧ cued.storeBusy = false ∧ exec (.save 1 1#8) cued = .next s1
    ∧ exec (.saveComplete 2) s1 = .next s2 ∧ loading.store.image = s2.store.image ∧ loading.store.activity = .loading 9#8
    ∧ loading.store.check = s2.store.check ∧ exec (.loadReplacementPoint 3 none) loading = .next v :=
  ⟨_, _, _, by decide, by decide, rfl, rfl, rfl, by decide, rfl, rfl⟩

theorem witness_define_personality : ready.admits 1#8 = true ∧ ready.storeBusy = false ∧ spotReq.id < 32
    ∧ spotReq.system = some .additiveRgbw ∧ spotReq.feedback = some true ∧ ready.personalityInUse 3 = false
    ∧ structureFits spotReq = true := by
  decide

/-- R2, R5: the stored map ascends by offset, whatever the request's order, its fixed values clamped. -/
theorem test_stored_map : storedMap [⟨some .control, 9, 8, 300⟩, ⟨some .tilt, 2, 16, 5⟩, ⟨some .pan, 0, 16, 0⟩] =
    [⟨.pan, 0, .w16, 0⟩, ⟨.tilt, 2, .w16, 0⟩, ⟨.control, 9, .w8, 255⟩] := by
  decide

theorem witness_patch : rig.admits 1#8 = true ∧ rig.storeBusy = false ∧ rig.personality 3 = some spot
    ∧ 498 + footprint spot.channelMap - 1 ≤ 512 ∧ rig.placement 511 = none
    ∧ rig.overlaps 511 15 498 (498 + footprint spot.channelMap - 1) = false ∧ rig.placement 61 = some ⟨3, 5, 31⟩ := by
  decide

/-- A re-patch to another slot of the same line, and to another line. -/
theorem witness_repatch : rig.placement 61 = some ⟨3, 5, 31⟩ ∧ (⟨3, 5, 31⟩ : Placement) ≠ ⟨3, 5, 1⟩
    ∧ (⟨3, 5, 31⟩ : Placement) ≠ ⟨3, 0, 31⟩ ∧ rig.rehomeInProgress 61 = false
    ∧ rig.overlaps 61 5 1 (1 + footprint spot.channelMap - 1) = false
    ∧ rig.overlaps 61 0 31 (31 + footprint spot.channelMap - 1) = false
    ∧ rig.motion 61 = some ⟨⟨27000, 0⟩, ⟨13500, 0⟩, 500⟩ := by
  decide

/-- A re-patch to another personality. -/
theorem witness_repatch_personality : (rig.setPersonality 31 spot).personality 31 = some spot
    ∧ (rig.setPersonality 31 spot).placement 61 = some ⟨3, 5, 31⟩ ∧ (rig.setPersonality 31 spot).rehomeInProgress 61 = false
    ∧ (rig.setPersonality 31 spot).overlaps 61 5 31 (31 + footprint spot.channelMap - 1) = false := by
  decide

theorem witness_unpatch : playing.admits 1#8 = true ∧ playing.storeBusy = false ∧ playing.placement 61 = some ⟨3, 5, 31⟩
    ∧ playing.supervision.rehomeQueue.Nodup := by
  decide

/-- An exchange of the head in progress, one that is discarded already, and one of another head. -/
theorem witness_exchange_discarded : (exchanging .sending .kept false).admits 1#8 = true
    ∧ (exchanging .sending .kept false).storeBusy = false ∧ (exchanging .sending .kept false).placement 61 = some ⟨3, 5, 31⟩
    ∧ (exchanging .sending .kept false).supervision.rehomeQueue.Nodup
    ∧ (exchanging .sending .kept false).rehomeInProgress 61 = false
    ∧ ((exchanging .sending .repatched false).line 5).turn = .exchange { exchangeIn .sending with discard := .repatched }
    ∧ (exchangeIn .sending).entry.head = 61 ∧ (exchangeIn .sending).discard = .kept ∧ (exchangeIn .sending).entry.head ≠ 62 := by
  decide

theorem witness_set_head : rig.admits 1#8 = true ∧ rig.storeBusy = false ∧ headReq.marks = some ⟨true, false, true⟩
    ∧ headReq.head < 512 ∧ rig.personalityOf headReq.head = some spot ∧ rig.patched 61 = true
    ∧ rig.motion 61 = some ⟨⟨27000, 0⟩, ⟨13500, 0⟩, 500⟩ := by
  decide

theorem witness_groups_and_lists : saving.admits 1#8 = true ∧ saving.storeBusy = true ∧ rig.storeBusy = false ∧ rig.list 63 = none
    ∧ cued.admits 1#8 = true ∧ cued.storeBusy = false ∧ cued.list 63 ≠ none := by
  decide

theorem witness_list_edits : cued.admits 1#8 = true ∧ cued.storeBusy = false
    ∧ cued.list 63 = some ⟨false, [cueTen, cueTwenty]⟩
    ∧ ((⟨false, [cueTen, cueTwenty]⟩ : CueList).cue 10).isSome = true
    ∧ (∀ l < 12, (cued.layer l).settings.list = some 63 → (cued.layer l).state = .idle) := by
  decide

/-- A new cue and a replaced one. -/
theorem witness_store_cue : cueFieldsBad 63 10#16 [oneEntry] false = false ∧ ([oneEntry].map EntryReq.head).Nodup
    ∧ [cueTen, cueTwenty].Pairwise (fun a b => a.number < b.number)
    ∧ (⟨false, [cueTen, cueTwenty]⟩ : CueList).cue 65535 = none ∧ 1 ≤ cued.freeCues ∧ [oneEntry].length ≤ cued.freeEntries
    ∧ (⟨false, [cueTen, cueTwenty]⟩ : CueList).cue 10 = some cueTen := by
  decide

theorem witness_append : cueFieldsBad 63 10#16 [oneEntry] false = false ∧ (⟨false, [cueTen, cueTwenty]⟩ : CueList).cue 10 = some cueTen
    ∧ cueTen.entries.Pairwise (fun a b => a.head < b.head) ∧ cueTen.newHeads [oneEntry] ≤ cued.freeEntries := by
  decide

theorem witness_go : cued.admits 1#8 = true ∧ cued.loading = false ∧ (11 : Nat) < 12 ∧ (cued.layerCues 11).isEmpty = false
    ∧ (cued.layer 11).nextCue (cued.layerCues 11) = some cueTen
    ∧ slotsNeeded (cued.layer 11).slots (cued.cueWants cueTen) ≤ cued.freeSlots
    ∧ (playing.layer 11).nextCue (playing.layerCues 11) = some cueTwenty := by
  decide

/-- With no LOAD and with one, a layer without a list, the end of the list in MANUAL, and the wrap in CHASE mode. -/
theorem witness_go_refusals : (loadingSeven cued).admits 1#8 = true ∧ (loadingSeven cued).loading = true ∧ cued.loading = false
    ∧ cued.layerCues 0 = [] ∧ cued.layerCues 11 = [cueTen, cueTwenty] ∧ cued.list 63 = some ⟨false, [cueTen, cueTwenty]⟩
    ∧ (cued.layer 11).settings.list = some 63 ∧ (cued.layer 0).settings.list = none ∧ cued.list 0 = none
    ∧ ({ running with currentCue := some 20 } : Layer).nextCue [cueTen, cueTwenty] = none
    ∧ ({ chasing 1 0 with currentCue := some 20 } : Layer).nextCue [cueTen, cueTwenty] = some cueTen
    ∧ [cueTen, cueTwenty].Pairwise (fun a b => a.number < b.number) := by
  decide

/-- A take with a slot that is re-based, and one with a slot that is kept. -/
theorem witness_taken_slots : ((playing.cueWants cueTen).map Want.key).Nodup ∧ Want.mk 61 .pan (.scalar 1000) ∈ playing.cueWants cueTen
    ∧ (∀ w ∈ playing.cueWants cueTwenty, ¬ (w.head = 61 ∧ w.attr = .pan)) := by
  decide

theorem witness_goto : playing.admits 1#8 = true ∧ playing.loading = false ∧ (20#16 : BitVec 16) ≠ 0
    ∧ (playing.layerCues 11).find? (fun c => c.number == (20#16 : BitVec 16).toNat) = some cueTwenty
    ∧ slotsNeeded (playing.layer 11).slots
        (playing.tracked ((playing.layerCues 11).filter (fun d => decide (d.number ≤ cueTwenty.number)))) ≤ playing.freeSlots := by
  decide

/-- A tracked target of distinct pairs, an intensity slot and a pan slot it leaves out, and one pair written twice. -/
theorem witness_tracked : ((playing.cueWants cueTwenty).map Want.key).Nodup ∧ Want.mk 61 .tilt (.scalar 2000) ∈ playing.cueWants cueTwenty
    ∧ (∀ w ∈ playing.cueWants cueTwenty, ¬ (w.head = 61 ∧ w.attr = .intensity))
    ∧ (∀ w ∈ playing.cueWants cueTwenty, ¬ (w.head = 61 ∧ w.attr = .pan)) := by
  decide

/-- R46, R47: a later cue writes over an earlier one, and what the target leaves out is released. -/
theorem test_tracked_and_released :
    playing.tracked [cueTen, { cueTwenty with entries := [⟨61, some 7, none, none, none⟩] }] =
        [⟨61, .pan, .scalar 7⟩, ⟨61, .intensity, .scalar 40000⟩]
      ∧ (playing.gotoSlots running.slots cueTwenty (playing.cueWants cueTwenty)).map (fun x => (x.attr, x.toVal, x.mark)) =
        [(.pan, .scalar 27000, .hold), (.tilt, .scalar 2000, .none), (.intensity, .scalar 0, .fadeOut)] := by
  decide

/-- Every state of a layer, for PAUSE, RESUME, RELEASE and KILL. -/
theorem witness_layer_states : (layerIn .running none).admits 1#8 = true ∧ ((layerIn .running none).layer 11).state = .running
    ∧ ((layerIn .releasing none).layer 11).state = .releasing ∧ ((layerIn .settled none).layer 11).state = .settled
    ∧ ((layerIn .paused (some .running)).layer 11).pausedFrom = some .running
    ∧ ((layerIn .paused (some .releasing)).layer 11).pausedFrom = some .releasing ∧ (cued.layer 11).state = .idle := by
  decide

theorem witness_layer_settings : cued.admits 1#8 = true ∧ cued.loading = false
    ∧ (∀ n, (none : Option Nat) = some n → n < 64) ∧ (cued.layer 11).state = .idle ∧ (playing.layer 11).state ≠ .idle
    ∧ cued.list 63 ≠ none := by
  refine ⟨by decide, by decide, by simp, by decide, by decide, by decide⟩

/-- The layer step in HOLD, and with a slot under way, all slots complete, and a release complete. -/
theorem witness_layer_step : (playing.withMode .hold).merge.mode = .hold ∧ playing.merge.mode ≠ .hold
    ∧ (∀ l < 12, ∀ f, (playing.layer l).followMs = some f → 4 < f)
    ∧ (∀ x ∈ (playing.layer 11).slots, x.elapsedMs + 4 < x.delayMs + x.fadeMs)
    ∧ (∀ x ∈ [Slot.mk 61 .intensity (.scalar 0) (.scalar 1) 0 8 4 .none], x.elapsedMs ≤ x.delayMs + x.fadeMs ∧
        x.delayMs + x.fadeMs ≤ x.elapsedMs + 4) := by
  refine ⟨by decide, by decide, fun l _ f hf => ?_, by decide, by decide⟩
  rw [(playing_reads l).1] at hf
  by_cases e : l = 11
  · simp only [e, if_true, running, Option.some.injEq] at hf; omega
  · simp [e, Layer.powerOn] at hf

/-- Layer 11 with a FADE_OUT slot that the next step completes, in a state, beside a HOLD slot and an intensity slot that it completes
or not. -/
def finishing (st : LayerState) (last : Nat) : State :=
  playing.setLayer 11 { running with
    state := st
    slots := [⟨61, .pan, .scalar 1, .scalar 1, 0, 0, 0, .hold⟩, ⟨61, .intensity, .scalar 9, .scalar 0, 0, 8, 5, .fadeOut⟩,
      ⟨62, .intensity, .scalar 0, .scalar 9, 0, 8, last, .none⟩] }

/-- R39: a finished fade-out goes while another slot runs on; all complete, the layer settles and its HOLD slot goes; a RELEASING layer
only advances until its intensity slots are complete. -/
theorem test_finishing_steps :
    (after (.layerStep 4000) (finishing .running 0)).layer 11 = { running with
        followMs := some 4
        slots := [⟨61, .pan, .scalar 1, .scalar 1, 0, 0, 0, .hold⟩, ⟨62, .intensity, .scalar 0, .scalar 9, 0, 8, 4, .none⟩] }
      ∧ (after (.layerStep 4000) (finishing .running 7)).layer 11 = { running with
        state := .settled, followMs := some 4, slots := [⟨62, .intensity, .scalar 0, .scalar 9, 0, 8, 8, .none⟩] }
      ∧ ((after (.layerStep 4000) (finishing .releasing 0)).layer 11).slots.map Slot.elapsedMs = [0, 8, 4]
      ∧ (after (.layerStep 4000) (finishing .releasing 7)).layer 11 = { Layer.powerOn with settings := running.settings } := by
  decide +kernel

/-- A countdown the next step brings to 0 and one it does not; a count the next beat brings to its chase beats and one not. -/
theorem witness_expiries : playing.merge.mode ≠ .hold ∧ (playing.layer 11).state = .running ∧ (playing.layer 11).followMs = some 8
    ∧ (4 : Nat) < 8 ∧ ((playing.setLayer 11 { running with followMs := some 4 }).layer 11).followMs = some 4
    ∧ (chasing 2 1).settings.mode = .chase ∧ (chasing 2 1).settings.chaseBeats ≤ (chasing 2 1).chaseCount + 1
    ∧ (chasing 2 0).chaseCount + 1 < (chasing 2 0).settings.chaseBeats ∧ (chasing 2 0).state = .running := by
  decide

/-- In HOLD, in RUN, a layer in another mode, the two counts of a CHASE layer, and generators that run and toggle. -/
theorem witness_beat_events : (playing.withMode .hold).merge.mode = .hold ∧ playing.merge.mode ≠ .hold
    ∧ (playing.layer 11).settings.mode ≠ .chase ∧ ((playing.setLayer 11 (chasing 2 0)).layer 11).settings.mode = .chase
    ∧ ((playing.setLayer 11 (chasing 2 0)).layer 11).chaseCount + 1 < 2 ∧ 2 ≤ (chasing 2 1).chaseCount + 1 := by
  decide

/-- R48, R109, R125: one beat event. -/
theorem test_beat_event :
    ((playing.setLayer 11 (chasing 2 0)).beatEvent.layer 11).chaseCount = 1
      ∧ ((playing.setLayer 11 (chasing 2 1)).beatEvent.layer 11).currentCue = some 20
      ∧ ((playing.setGenerator 3 ⟨4, true, true, 3⟩).beatEvent.generator 3) = ⟨4, true, false, 0⟩
      ∧ playing.beatEvent.inputs.beat.subdivision = some ⟨125000, 125000, 1⟩ := by
  decide +kernel

/-- Before the delay, within the fade and after it. -/
theorem witness_fade : (Slot.mk 1 .pan (.scalar 9) (.scalar 0) 4 8 0 .none).elapsedMs < 4
    ∧ (Slot.mk 1 .pan (.scalar 9) (.scalar 0) 4 8 11 .none).elapsedMs - 4 < 8
    ∧ 8 ≤ (Slot.mk 1 .pan (.scalar 9) (.scalar 0) 4 8 12 .none).elapsedMs - 4 := by
  decide

theorem witness_merge_requests : ready.admits 1#8 = true ∧ ready.merge.douseLatch = false ∧ ready.merge.douseLine = false
    ∧ (after (.douseAssert 1) ready).merge.douseLatch = true ∧ (after (.douseAssert 1) ready).merge.douseLine = true
    ∧ (after (.douseAssert 1) ready).admits 1#8 = true
    ∧ (after (.douseDeassert 2) (after (.douseAssert 1) ready)).merge.douseLine = false := by
  decide

theorem witness_merged_intensity : (candidates (playing.contributing 61 .intensity)).length = 1
    ∧ candidates (ready.contributing 61 .intensity) = [] := by
  decide

/-- Layer 3 below layer 11 in the take stack, its precedence higher. -/
def twoLayers : State :=
  { playing.setLayer 3 { running with
      settings := { running.settings with precedence := 9 }, slots := [⟨61, .pan, .scalar 500, .scalar 500, 0, 0, 0, .none⟩] } with
    playback.takeStack := [3, 11] }

/-- Two contributing layers with one candidate, one layer masked out, and no contributing layer. -/
theorem witness_merged_latest : (twoLayers.contributing 61 .pan).map Contribution.layer = [3, 11]
    ∧ (candidates (twoLayers.contributing 61 .pan)).getLast?.map Contribution.layer = some 3
    ∧ twoLayers.mergedTarget 61 .pan = .scalar 500 ∧ ((twoLayers.withMask 8).contributing 61 .pan).length = 1
    ∧ ready.contributing 61 .pan = [] ∧ ready.contributing 61 .tilt = [] ∧ ready.contributing 61 .colour = [] := by
  decide

theorem witness_limiter_step : rig.patched 62 = false ∧ rig.personalityOf 61 = some spot
    ∧ rig.motion 61 = some ⟨⟨27000, 0⟩, ⟨13500, 0⟩, 500⟩ := by
  decide

/-- Targets above, below and at the position, at both ends of the range. -/
theorem witness_axis : (54000 : Nat) ≤ 54000 ∧ ((54000 : Nat) : Int) - (Axis.mk 0 0).position ≠ 0 ∧ ((0 : Nat) : Int) - (Axis.mk 54000 0).position ≠ 0
    ∧ ((0 : Nat) : Int) - (Axis.mk 0 0).position = 0 ∧ (Axis.mk 0 5).velocity ≠ 0 := by
  decide

theorem witness_zones : rig.admits 1#8 = true ∧ rig.zones.writeEnable = false ∧ enabled.admits 1#8 = true
    ∧ enabled.zones.writeEnable = true ∧ enabled.storeBusy = false ∧ (saving.withZoneWrite true).admits 1#8 = true
    ∧ (saving.withZoneWrite true).storeBusy = true ∧ (31 : Nat) < 32 ∧ (0#32 : BitVec 32) ≤ 72000#32 := by
  decide

/-- The rig with zone 31 over head 61. -/
def zoned : State := rig.setZone 31 ⟨true, 10, 27000, 27000, 0, 13500⟩

theorem witness_dark : zoned.personalityOf 61 = some spot ∧ zoned.motion 61 = some ⟨⟨27000, 0⟩, ⟨13500, 0⟩, 500⟩
    ∧ (zoned.zone 31).active = true ∧ (zoned.group (zoned.zone 31).group).getLsbD 61 = true
    ∧ (zoned.zone 31).panMin ≤ 27000 ∧ 27000 ≤ (zoned.zone 31).panMax ∧ (zoned.zone 31).tiltMin ≤ 13500
    ∧ 13500 ≤ (zoned.zone 31).tiltMax := by
  decide +kernel

theorem witness_channel_value : 0 < 100 ∧ 100 ≤ 100 := by decide

/-- The rig with head 61 following generator 3, whose phase is OFF. -/
def blinking (mask : BlinkMask) : State :=
  (rig.setGenerator 3 ⟨4, true, false, 0⟩).setHeadPatch 61 { rig.headPatch 61 with blinkGenerator := some 3, blinkMask := mask }

/-- Heads forced dark and not, blinking by each mask and not, an additive personality with a DIMMER and without one, and slots
that a head fills and that none does. -/
theorem witness_frames : 31 ∈ zoned.zonesOf 61 ∧ rig.zonesOf 61 = [] ∧ rig.merge.douseLatch = false ∧ rig.merge.mode ≠ .park
    ∧ (rig.watch 61).condition = .active ∧ (rig.headPatch 61).blinkGenerator = none
    ∧ ((blinking .both).headPatch 61).blinkGenerator = some 3 ∧ ((blinking .both).generator 3).on = false
    ∧ ((blinking .colour).headPatch 61).blinkMask = .colour ∧ ((blinking .intensity).headPatch 61).blinkMask = .intensity
    ∧ (convertColour spot.system openWhite)[3]? = some 65535 ∧ spot.gains[3]? = some 65535
    ∧ (∃ r ∈ spot.channelMap, r.role = .dimmer) ∧ spot.system ≠ .subtractiveCmy
    ∧ (∀ r ∈ ({ spot with channelMap := [] } : Personality).channelMap, r.role ≠ .dimmer)
    ∧ rig.placement 61 = some ⟨3, 5, 31⟩ ∧ rig.personalityOf 61 = some spot
    ∧ (∀ h ∈ rig.headsOn 5, ∀ e ∈ rig.headSlots h, e.1 ≠ 29 + 1) ∧ (∃ h ∈ rig.headsOn 5, (30 + 1, 128#8) ∈ rig.headSlots h)
    ∧ (∀ h ∈ rig.headsOn 5, ∀ e ∈ rig.headSlots h, e.1 = 30 + 1 → e.2 = 128#8) := by
  decide +kernel

/-- The five forcing conditions, each met alone by a patched head. -/
theorem witness_forcing : rig.patched 61 = true ∧ rig.forcing 61 = [] ∧ zoned.forcing 61 = [.zone]
    ∧ ({ rig with merge.douseLatch := true } : State).forcing 61 = [.douse] ∧ (rig.withMode .park).forcing 61 = [.park]
    ∧ (withWatch { Watch.unpatched with condition := .homing }).forcing 61 = [.homing]
    ∧ (withWatch { Watch.unpatched with condition := .faulted }).forcing 61 = [.faulted]
    ∧ (withWatch { Watch.unpatched with condition := .lost }).forcing 61 = [] := by
  decide +kernel

/-- R105, R115: the slots of the rig's line: 30 that nothing fills, then the head's pan, tilt, dimmer, shutter, four emitters and
control. -/
theorem test_frame_slots : rig.frameSlots 5 = List.replicate 30 0#8 ++
    [128#8, 0#8, 128#8, 0#8, 0#8, 255#8, 0#8, 0#8, 0#8, 0#8, 0#8, 0#8, 255#8, 255#8, 0#8] := by
  decide

theorem witness_blink : rig.admits 1#8 = true ∧ (rig.generator 3).running = false
    ∧ ((rig.setGenerator 3 ⟨4, true, true, 2⟩).generator 3).running = true
    ∧ ((rig.setGenerator 3 ⟨4, true, true, 2⟩).generator 3).count + 1 < 4
    ∧ 4 ≤ ((rig.setGenerator 3 ⟨4, true, true, 3⟩).generator 3).count + 1 ∧ rig.storeBusy = false ∧ rig.patched 61 = true
    ∧ rig.patchedHeads.Nodup ∧ rig.merge.mode ≠ .hold ∧ (∀ k, some 3 = some k → k < 4) := by
  refine ⟨by decide, by decide, by decide, by decide, by decide, by decide, by decide, by decide, by decide, fun k hk => by
    simp at hk; omega⟩

theorem witness_beat : (withBeat .external .auto none 0).admits 1#8 = true
    ∧ (withBeat .external .auto none 0).inputs.beat.source = .external
    ∧ (withBeat .internal .auto none 0).inputs.beat.source = .internal
    ∧ (withBeat .internal .forceInternal none 0).inputs.beat.setting = .forceInternal
    ∧ (withBeat .external .auto none 1).inputs.beat.missed ≠ 0
    ∧ (withBeat .external .auto none 0).inputs.beat.subdivision = some ⟨125000, 125000, 1⟩ := by
  decide

/-- Intervals at and beyond both bounds. -/
theorem witness_pulse : (withBeat .internal .auto (some 0) 0).inputs.beat.previousPulse = some 0
    ∧ 200000 ≤ (rig.advance 200000).now - 0 ∧ (rig.advance 2000000).now - 0 ≤ 2000000 ∧ (rig.advance 199999).now - 0 < 200000
    ∧ 2000000 < (rig.advance 2000001).now - 0 := by
  decide

theorem witness_timecode : rig.inputs.timecode.partialChars = [] ∧ (23#8 : Byte).toNat < 24 ∧ (29#8 : Byte).toNat < 30
    ∧ 24 ≤ (24#8 : Byte).toNat
    ∧ (rig.setTimecode ⟨true, 5, some 100000, [0xA5#8, 1#8]⟩).inputs.timecode.lockTimer ≠ none
    ∧ (rig.setTimecode ⟨true, 5, some 100000, [0xA5#8, 1#8]⟩).inputs.timecode.partialChars ≠ [] := by
  decide

/-- R127: a discard empties what has been assembled; the character that ends a gap may begin the next message. -/
theorem test_timecode_discard :
    (after (.timecodeMessageDiscard 9 .check) (rig.setTimecode ⟨true, 5, some 100000, [0xA5#8, 1#8]⟩)).inputs.timecode =
        ⟨true, 5, some 100000, []⟩
      ∧ (after (.timecodeMessageDiscard 9 (.gap 0xA5#8)) (rig.setTimecode ⟨true, 5, some 100000, [0xA5#8, 1#8]⟩)).inputs.timecode =
        ⟨true, 5, some 100000, [0xA5#8]⟩ := by
  decide

def tcTen : Cue := { cueTen with tcFrame := some 100 }

def tcTwenty : Cue := { cueTwenty with tcFrame := some 200 }

/-- Layer 11 in TIMECODE mode on a list of two cues with frames, IDLE or with a current cue; the receiver LOCKED. -/
def timed (current : Option Nat) : State :=
  ((rig.setList 63 (some ⟨false, [tcTen, tcTwenty]⟩)).setLayer 11
    { Layer.powerOn with
      settings := { Layer.powerOn.settings with mode := .timecode, list := some 63 }
      currentCue := current }).setTimecode ⟨true, 5, some 100000, []⟩

/-- The same with slots held by layer 0. -/
def timedHolding (l : List Slot) : State :=
  (timed none).setLayer 0 { Layer.powerOn with slots := l }

theorem timedHolding_freeSlots (l : List Slot) : (timedHolding l).freeSlots = 16384 - l.length := by
  have h (k : Nat) : ((timed none).layer k).slots = [] := by
    simp only [timed, State.setTimecode]
    rw [show ∀ x : State, ∀ c, ({ x with inputs := { x.inputs with timecode := c } } : State).layer k = x.layer k from fun _ _ => rfl]
    rw [layer_setLayer]; split <;> rfl
  simp [State.freeSlots, State.slotsHeld, timedHolding, layerIds, Config.layers, Config.slotPool, List.range, List.range.loop, h,
    total]

/-- Below every frame; the successor as target; a target beyond it; a target behind the current cue; and the current cue. -/
theorem witness_timecode_layers : (timed none).merge.mode ≠ .hold ∧ (timed none).inputs.timecode.locked = true
    ∧ ((timed none).layer 11).settings.mode = .timecode ∧ (timed none).layerCues 11 = [tcTen, tcTwenty]
    ∧ [tcTen, tcTwenty].Pairwise (fun a b => a.number < b.number) ∧ timecodeTarget [tcTen, tcTwenty] 99 = none
    ∧ timecodeTarget [tcTen, tcTwenty] 100 = some tcTen ∧ timecodeTarget [tcTen, tcTwenty] 200 = some tcTwenty
    ∧ ((timed none).layer 11).currentCue = none ∧ ((timed (some 20)).layer 11).currentCue = some 20
    ∧ (timed none).loading = false ∧ (loadingSeven (timed none)).loading = true
    ∧ slotsNeeded ((timed none).layer 11).slots ((timed none).cueWants tcTen) ≤ (timed none).freeSlots := by
  decide

theorem timedHolding_layer (l : List Slot) : (timedHolding l).layer 11 = (timed none).layer 11 := by
  rw [timedHolding, layer_setLayer]; rfl

/-- A pool that has no free slot for a take. -/
theorem witness_timecode_full (x : Slot) :
    (timedHolding (List.replicate 16384 x)).freeSlots
      < slotsNeeded ((timedHolding (List.replicate 16384 x)).layer 11).slots ((timedHolding (List.replicate 16384 x)).cueWants tcTen) := by
  rw [timedHolding_freeSlots, List.length_replicate]
  rw [timedHolding_layer]
  change 16384 - 16384 < slotsNeeded ((timed none).layer 11).slots ((timed none).cueWants tcTen)
  decide

/-- The same pool met by a console GO. -/
theorem witness_go_pool_full (l : List Slot) : (timedHolding l).admits 1#8 = true ∧ (timedHolding l).loading = false
    ∧ ((timedHolding l).layer 11).nextCue ((timedHolding l).layerCues 11) = some tcTen := by
  refine ⟨rfl, rfl, ?_⟩
  have h : (timedHolding l).layerCues 11 = (timed none).layerCues 11 := by
    simp only [State.layerCues, timedHolding_layer]; rfl
  rw [timedHolding_layer, h]
  decide

/-- R49: a take, a GOTO forward and back, and a refusal told once. -/
theorem test_timecode_layers :
    ((timed none).timecodeLayers 100).link.notices = [.cueTaken 11 10 .timecode .go]
      ∧ ((timed none).timecodeLayers 200).link.notices = [.cueTaken 11 20 .timecode .goto]
      ∧ ((timed (some 20)).timecodeLayers 150).link.notices = [.cueTaken 11 10 .timecode .goto]
      ∧ ((timed (some 20)).timecodeLayers 200).link.notices = []
      ∧ (((loadingSeven (timed none)).timecodeLayers 100).timecodeLayers 101).link.notices =
        [.takeFailed 11 .timecode none .storeBusy (some 10)] := by
  decide

/-- The rig with trigger line 7 set to an action, its last edge at 0. -/
def triggered (a : Action) (floor : Nat) : State :=
  { rig.setTrigger 7 ⟨false, some 0, ⟨a, 9⟩⟩ with inputs.floor := floor }

/-- An edge within and after 10 ms, at the floor and above it. -/
theorem witness_edges : State.reset.startUp = .starting ∧ (rig.advance 9999).now < 0 + 10000 ∧ 0 + 10000 ≤ (rig.advance 10000).now
    ∧ ((triggered .hold 9).setTrigger 7 ⟨false, some 0, ⟨.hold, 9⟩⟩).inputs.floor = 9
    ∧ ((triggered .hold 8).trigger 7).pending = false ∧ (triggered .hold 8).inputs.floor < 9
    ∧ ((triggered .none 15).trigger 7).entry.action = .none ∧ (triggered .hold 8).startUp ≠ .starting := by
  decide

/-- A state with a trigger line set to an action, for every action and state. -/
theorem witness_actions (s : State) (a : Action) :
    ((s.setTrigger 7 ⟨false, some 0, ⟨a, 9⟩⟩).trigger 7).entry.action = a
      ∧ ∀ l, (s.setTrigger 7 ⟨false, some 0, ⟨a, 9⟩⟩).layer l = s.layer l := by
  simp

/-- A flag that is set already, and what a trigger's GO finds. -/
theorem witness_pending_trigger : ((triggered (.setMask 15) 8).setTrigger 7 ⟨true, none, ⟨.setMask 15, 9⟩⟩).inputs.floor < 9
    ∧ (((triggered (.setMask 15) 8).setTrigger 7 ⟨true, none, ⟨.setMask 15, 9⟩⟩).trigger 7).pending = true
    ∧ (cued.actOn 7).merge = cued.merge
    ∧ ((cued.setTrigger 7 ⟨true, none, ⟨.go 11, 9⟩⟩).actOn 7).link.notices =
      [.cueTaken 11 10 .trigger .go, .triggerTaken 7 (.go 11) (.layerState .running)]
    ∧ ((rig.setTrigger 7 ⟨true, none, ⟨.go 11, 9⟩⟩).actOn 7).link.notices = [.takeFailed 11 .trigger (some 7) .noList none] := by
  decide

theorem witness_trigger_requests : rig.admits 1#8 = true ∧ rig.storeBusy = false ∧ (∀ n < 8, (rig.trigger n).pending = false)
    ∧ (∀ l, actionLayer (.go 11) = some l → l < 12) := by
  refine ⟨by decide, by decide, by decide, fun l hl => ?_⟩
  simp only [actionLayer, Option.some.injEq] at hl
  omega

/-- R133: CLEAR TRIGGER of all lines clears the set flags of a HOLD and a SET MASK above the floor, and carries neither out. -/
theorem test_clear_all_triggers :
    ∀ u ∈ [after (.clearTrigger 10 1#8 none) (((triggered .run 8).setTrigger 7 ⟨true, none, ⟨.hold, 9⟩⟩).setTrigger 0
        ⟨true, some 3, ⟨.setMask 5, 15⟩⟩)],
      u.merge = rig.merge ∧ u.link.notices = [] ∧ u.trigger 7 = ⟨false, none, ⟨.hold, 9⟩⟩
        ∧ u.trigger 0 = ⟨false, some 3, ⟨.setMask 5, 15⟩⟩ := by
  decide

/-- A set flag that a new entry lets through, or not; and two set flags at a new floor, one acted on. -/
theorem test_set_flags :
    (after (.setTrigger 10 1#8 7 (some .hold) 9) ((triggered .run 8).setTrigger 7 ⟨true, none, ⟨.run, 5⟩⟩)).merge.mode = .hold
      ∧ ((after (.setTrigger 10 1#8 7 (some .hold) 8) ((triggered .run 8).setTrigger 7 ⟨true, none, ⟨.run, 5⟩⟩)).trigger 7).pending =
        true
      ∧ (((after (.setTrigger 10 1#8 7 (some .none) 1) ((triggered .run 8).setTrigger 7 ⟨true, none, ⟨.run, 5⟩⟩)).trigger 7).pending =
        false)
      ∧ (after (.setTriggerFloor 10 1#8 5) (((triggered .run 8).setTrigger 7 ⟨true, none, ⟨.park, 6⟩⟩).setTrigger 0
          ⟨true, none, ⟨.hold, 5⟩⟩)).link.sending = some (.reply ⟨0x53#8, 1#8, .ok, .floor 8 5 1, true⟩) := by
  decide

theorem witness_set_flags : ((triggered .run 8).setTrigger 7 ⟨true, none, ⟨.run, 5⟩⟩).admits 1#8 = true
    ∧ ((triggered .run 8).setTrigger 7 ⟨true, none, ⟨.run, 5⟩⟩).storeBusy = false
    ∧ (((triggered .run 8).setTrigger 7 ⟨true, none, ⟨.run, 5⟩⟩).trigger 7).pending = true
    ∧ storedAction .hold ≠ .none ∧ clamp 1 15 8 ≤ 8 ∧ 8 < clamp 1 15 9 ∧ (∀ l, actionLayer .hold = some l → l < 12) := by
  refine ⟨by decide, by decide, by decide, by decide, by decide, by decide, fun l hl => by simp [actionLayer] at hl⟩

/-- A line that is disabled. -/
def disabled : Line :=
  { Line.powerOn with settings := { Line.powerOn.settings with enabled := false }, auditTimer := none }

theorem witness_configure : rig.admits 1#8 = true ∧ rig.storeBusy = false ∧ (rig.line 15).settings.enabled = true
    ∧ ((rig.setLine 15 disabled).line 15).settings.enabled = false ∧ (rig.setLine 15 disabled).slotCount 15 = 0
    ∧ ((rig.setLine 5 disabled).line 5).settings.enabled = false ∧ 0 < (rig.setLine 5 disabled).slotCount 5 := by
  decide

/-- The rig with HOME entries of heads 61 and 62 and a console query on line 5, head 62 FAULTED and head 63 waiting. -/
def homesQueued : State :=
  { (withLine { Line.powerOn with queue := [⟨61, .home, .urgent, .supervision⟩, ⟨61, .status, .routine, .console 4#8⟩,
        ⟨62, .home, .urgent, .supervision⟩] }).setWatch 61 { Watch.unpatched with stage := .sent } with
    supervision := { (((withLine Line.powerOn).setWatch 61 { Watch.unpatched with stage := .sent }).setWatch 62
      { Watch.unpatched with stage := .sent, condition := .faulted }).supervision with homingCount := 3, rehomeQueue := [63] } }

/-- R161: a disable takes the HOME entries of two heads back, one of them FAULTED, and answers the console's query. -/
theorem test_disable_takes_homes_back :
    (after (.configureLine 10 1#8 ⟨5, some false, 100, 4, 200⟩) homesQueued).supervision.rehomeQueue = [61, 63]
      ∧ (after (.configureLine 10 1#8 ⟨5, some false, 100, 4, 200⟩) homesQueued).supervision.homingCount = 1
      ∧ ((after (.configureLine 10 1#8 ⟨5, some false, 100, 4, 200⟩) homesQueued).watch 61).stage = .queued
      ∧ ((after (.configureLine 10 1#8 ⟨5, some false, 100, 4, 200⟩) homesQueued).watch 62).stage = .none
      ∧ (after (.configureLine 10 1#8 ⟨5, some false, 100, 4, 200⟩) homesQueued).link.sending =
        some (.reply ⟨0x59#8, 4#8, .aborted, .bare, false⟩) := by
  decide

theorem witness_homes_queued : homesQueued.admits 1#8 = true ∧ homesQueued.storeBusy = false
    ∧ (homesQueued.line 5).settings.enabled = true := by
  decide

theorem witness_query : rig.admits 1#8 = true ∧ rig.placement 61 = some ⟨3, 5, 31⟩ ∧ rig.personality 3 = some spot
    ∧ spot.feedback = true ∧ (rig.line 5).settings.enabled = true ∧ (rig.line 5).queue.length < 8
    ∧ ((withLine { Line.powerOn with turn := .exchange (exchangeIn .sending) }).line 5).turn = .exchange (exchangeIn .sending)
    ∧ ((withLine { Line.powerOn with turn := .exchange (exchangeIn (.window 7)) }).line 5).turn =
      .exchange (exchangeIn (.window 7)) := by
  decide

/-- A discarded exchange in its reply window, and an abandoned one whose query frame is being sent. -/
theorem witness_discarded :
    ((exchanging (.window 7) (.unpatched true) false).line 5).turn = .exchange { exchangeIn (.window 7) with discard := .unpatched true }
      ∧ Discard.unpatched true ≠ .kept ∧ Discard.loaded ≠ .unpatched true ∧ (exchangeIn (.window 7)).abandoned = false
      ∧ ((after (.rigReset 1 1#8) (exchanging .sending .kept false)).line 5).turn =
        .exchange { exchangeIn .sending with abandoned := true } := by
  decide +kernel

/-- R146, R15: the end of a HOME exchange discarded by an UNPATCH HEAD: its count released, the console's entry ABORTED. -/
theorem test_discarded_end :
    (after (.replyStartTimeout 9 5) { exchanging (.window 7) (.unpatched true) false with supervision.homingCount := 2 }).supervision
        = { rig.supervision with homingCount := 1 }
      ∧ (after (.replyStartTimeout 9 5) (exchanging (.window 7) .loaded false)).link.sending =
        some (.reply ⟨0x59#8, 4#8, .aborted, .bare, false⟩) := by
  decide

/-- A valid reply, one with another header, and one with a wrong check. -/
theorem witness_replies : (ReplyChars.mk 0x72#8 1#8 128#8 0#8 128#8 0#8 4#8 5#8 true).check = 1#8 + 128#8 + 0#8 + 128#8 + 0#8 + 4#8
    ∧ (ReplyChars.mk 0x71#8 1#8 128#8 0#8 128#8 0#8 4#8 5#8 true).header ≠ 0x72#8
    ∧ (ReplyChars.mk 0x72#8 1#8 128#8 0#8 128#8 0#8 4#8 6#8 true).check ≠ 1#8 + 128#8 + 0#8 + 128#8 + 0#8 + 4#8 := by
  decide

/-- A line with a query of a priority, refresh due or not, and a wait counter. -/
def waiting (p : Priority) (due : Bool) (wait : Nat) : Line :=
  { Line.powerOn with queue := [⟨61, .status, p, .audit⟩], refreshDue := due, refreshTimer := some 5000, wait := wait }

/-- The wait counter below and at the threshold, and the refresh claimed from 3,464 us on. -/
theorem witness_arbiter : (waiting .routine true 3).claimed 0 = true ∧ 3 < (waiting .routine true 3).settings.maxWait
    ∧ (waiting .routine false 0).claimed 1536 = false ∧ (waiting .routine false 0).claimed 1537 = true
    ∧ (waiting .routine true 4).settings.maxWait ≤ (waiting .routine true 4).wait
    ∧ (∃ x ∈ (waiting .urgent true 1).queue, x.priority = .urgent) := by
  decide

/-- Each grant of the table, the head placed, with values in the last-sent snapshot and without. -/
theorem witness_decisions : ((withLine Line.powerOn).line 5).grant 0 45 = .nothing
    ∧ ((withLine { Line.powerOn with refreshDue := true }).line 5).grant 0 45 = .refresh false
    ∧ (waiting .routine true 3).grant 0 45 = .refresh true
    ∧ (waiting .routine true 4).grant 0 45 = .query ⟨61, .status, .routine, .audit⟩ []
    ∧ rig.placement 61 = some ⟨3, 5, 31⟩ ∧ (rig.line 5).snapshot = [] ∧ rig.slotCount 5 = 45
    ∧ ([⟨61, 5, 6⟩] : List LastSent).find? (fun y => decide (y.head = 61)) = some ⟨61, 5, 6⟩
    ∧ rig.motion 61 = some ⟨⟨27000, 0⟩, ⟨13500, 0⟩, 500⟩ := by
  decide

/-- R144, R138: the query frame of a granted entry, and its judge snapshot. -/
theorem test_query_frame :
    (((withLine { waiting .routine true 4 with snapshot := [⟨61, 16384, 49151⟩] }).decideTurn 5).line 5).turn =
      .exchange ⟨⟨61, .status, .routine, .audit⟩, ⟨some (16384, 49151), true⟩, [0x71#8, 0#8, 31#8, 1#8, 64#8, 0#8, 191#8, 255#8],
        .sending, .kept, false⟩ := by
  decide

theorem witness_refresh : ((withLine { Line.powerOn with refreshTimer := some 5 }).line 5).refreshTimer ≠ none
    ∧ ((withLine { Line.powerOn with refreshTimer := some 5 }).line 5).turn = .idle
    ∧ 0 < (withLine { Line.powerOn with refreshTimer := some 5 }).slotCount 5
    ∧ ((withLine { Line.powerOn with turn := .frame [0#8] }).line 5).turn = .frame [0#8] := by
  decide

/-- A clean reply, and replies at and beyond the tolerance of 300. -/
theorem witness_outcomes : (rig.watch 61).condition = .active ∧ (rig.watch 61).flags = Faults.clear
    ∧ drifted (rig.headPatch 61).driftTolerance ⟨some (32768, 32768), true⟩ ⟨false, 33068, 32768, Faults.clear⟩ = false
    ∧ drifted (rig.headPatch 61).driftTolerance ⟨some (32768, 32768), true⟩ ⟨false, 33069, 32768, Faults.clear⟩ = true
    ∧ ((withWatch { Watch.unpatched with strikes := 1, misses := 1 }).watch 61).strikes = 1 := by
  decide

/-- A head in each stage and condition that an outcome finds, with a last reply and without. -/
theorem witness_watches (c : Condition) (g : Stage) (k n : Nat) (p : Option LastReply) :
    (withWatch ⟨c, k, n, p, g, none⟩).watch 61 = ⟨c, k, n, p, g, none⟩ := by
  simp [withWatch]

/-- Replies judged at the tolerance and beyond it, and one that is not judged. -/
theorem witness_judged : judged ⟨some (32768, 32768), true⟩ ⟨false, 33068, 32768, Faults.clear⟩ = true
    ∧ judged ⟨some (32768, 32768), true⟩ ⟨true, 33068, 32768, Faults.clear⟩ = false
    ∧ judged ⟨none, true⟩ ⟨false, 33068, 32768, Faults.clear⟩ = false
    ∧ 33068 ≤ 32768 + (rig.headPatch 61).driftTolerance ∧ 32768 + (rig.headPatch 61).driftTolerance < 33069
    ∧ (rig.headPatch 61).autoRehome = true ∧ ({ HeadPatch.unpatched with autoRehome := false } : HeadPatch).autoRehome = false := by
  decide

/-- R156, R157, R161: MOTOR on a HOMING head, a HOME reply of a LOST head, the end of a homing, and no reply to a HOME query. -/
theorem test_outcomes :
    ((withWatch { Watch.unpatched with condition := .homing, stage := .homing, deadline := some 9 }).handleReply 61 .status
        ⟨none, true⟩ ⟨true, 1, 2, ⟨true, false, false⟩⟩).link.notices =
        [.fault 61 Faults.clear ⟨true, false, false⟩ .faulted, .headCondition 61 .homing .faulted .motor 0 0]
      ∧ ((withWatch { Watch.unpatched with condition := .lost, stage := .sent }).handleReply 61 .home ⟨none, true⟩
        ⟨false, 1, 2, Faults.clear⟩).watch 61 = ⟨.homing, 0, 0, some ⟨1, 2, Faults.clear⟩, .homing, some 20000000⟩
      ∧ ((withWatch { Watch.unpatched with condition := .homing, stage := .homing, deadline := some 9 }).handleReply 61 .status
        ⟨none, true⟩ ⟨false, 1, 2, Faults.clear⟩).watch 61 = ⟨.active, 0, 0, some ⟨1, 2, Faults.clear⟩, .none, none⟩
      ∧ ({ withWatch { Watch.unpatched with stage := .sent, misses := 2 } with supervision.homingCount := 1 } : State).handleNoReply
        61 .home = ({ (withWatch { Watch.unpatched with condition := .lost, misses := 3 }) with
          supervision.homingCount := 0 } : State).notify (.headCondition 61 .active .lost .misses 0 3) := by
  decide +kernel

/-- The rig with head 61 HOMING. -/
def homing : State :=
  withWatch { Watch.unpatched with condition := .homing, stage := .homing, deadline := some 20000000 }

theorem witness_audit_and_poll : (rig.line 5).auditTimer ≠ none ∧ rig.nextAudit 5 = some 61
    ∧ (rig.headsOn 0).filter rig.auditable = [] ∧ (homing.watch 61).condition = .homing ∧ homing.supervision.rehomeQueue = []
    ∧ (homing.line 5).accepts = true ∧ (homing.line 5).hasEntry 61 = false := by
  decide

/-- An entry for the head queued, a line that refuses, and the cursor absent, below the head and at it. -/
theorem witness_audit_entry : (∃ e ∈ (waiting .routine false 0).queue, e.head = 61)
    ∧ (∀ e ∈ (rig.line 5).queue, e.head ≠ 61) ∧ (rig.line 5).accepts = true
    ∧ ({ Line.powerOn with queue := List.replicate 8 ⟨62, .status, .routine, .audit⟩ } : Line).accepts = false
    ∧ (rig.headsOn 5).Pairwise (· < ·) ∧ 61 ∈ rig.headsOn 5 ∧ rig.auditable 61 = true ∧ (rig.line 5).auditCursor = none
    ∧ (∀ k ∈ rig.headsOn 5, rig.auditable k = true → 61 ≤ k)
    ∧ (withLine { Line.powerOn with auditCursor := some 60 }).nextAudit 5 = some 61
    ∧ (withLine { Line.powerOn with auditCursor := some 61 }).nextAudit 5 = some 61 := by
  decide

/-- R154: the audit starts an exchange on an IDLE line; an entry for the head that is queued already is not asked for again. -/
theorem test_audit_entry :
    ((after (.auditTimerExpiry 200000 5) rig).line 5).turn.exchangeReport = some ⟨61, .status, .audit, false⟩
      ∧ ((after (.auditTimerExpiry 200000 5) (withLine (waiting .urgent false 0))).line 5).queue.length = 1 := by
  decide

/-- At the limit and below it; a line disabled, one full, and one that takes the entry. -/
theorem witness_dispatch : ({ rig with supervision.homingCount := 4 } : State).supervision.homingLimit ≤ 4
    ∧ rig.supervision.homingCount < rig.supervision.homingLimit ∧ rig.placement 61 = some ⟨3, 5, 31⟩
    ∧ disabled.settings.enabled = false
    ∧ 8 ≤ ({ Line.powerOn with queue := List.replicate 8 ⟨62, .status, .routine, .audit⟩ } : Line).queue.length
    ∧ (rig.line 5).settings.enabled = true ∧ (rig.line 5).queue.length < 8 ∧ (rig.watch 61).condition ≠ .faulted := by
  decide

theorem witness_only_homing_head (k : Nat) (h : k ≠ 61) : (homing.watch k).condition ≠ .homing ∧ (rig.watch k).condition ≠ .homing := by
  have e : rig.watch k = Watch.unpatched := rfl
  rw [homing, withWatch, watch_setWatch, if_neg h, e]
  exact ⟨by decide, by decide⟩

/-- The homing deadline, a head that may be re-homed, at the limit and below it, and a condition to clear. -/
theorem witness_rehome : (homing.watch 61).deadline ≠ none ∧ rig.admits 1#8 = true ∧ rig.loading = false
    ∧ rig.personalityOf 61 = some spot ∧ spot.feedback = true ∧ (rig.watch 61).stage = .none
    ∧ ({ rig with supervision.homingCount := 4 } : State).supervision.homingLimit ≤ 4
    ∧ ((withWatch { Watch.unpatched with condition := .drifted }).watch 61).condition ≠ .active
    ∧ rig.supervision.rehomeQueue = [] := by
  decide

/-! ## Consequences in other owners: slot counts, releases, follow takes, polls and the dispatch -/

/-- R139: a line whose slot count leaves 0 (enabled and not), becomes 0, and stays above 0. -/
theorem witness_slot_counts : 0 < rig.slotCount 5 ∧ (rig.line 5).settings.enabled = true ∧ rig.slotCount 15 = 0
    ∧ ((rig.setLine 5 disabled).line 5).settings.enabled = false ∧ 0 < (rig.setLine 5 disabled).slotCount 5 := by decide

/-- R139: the patching of a line's first head starts a refresh; the unpatching of its last stops the timer and clears refresh due;
a re-patch to another line does both. -/
theorem test_slot_counts :
    ((after (.patchHead 10 1#8 62 3 15 498) rig).line 15).turn ≠ .idle
      ∧ (after (.unpatchHead 10 1#8 61) (withLine { Line.powerOn with refreshTimer := some 9, refreshDue := true })).line 5
        = { Line.powerOn with refreshTimer := none, refreshDue := false }
      ∧ ((after (.patchHead 10 1#8 61 3 15 31) (withLine { Line.powerOn with refreshTimer := some 9 })).line 5).refreshTimer = none
      ∧ ((after (.patchHead 10 1#8 61 3 15 31) rig).line 15).turn ≠ .idle := by
  decide

/-- R10, R13: the head's values, and only its, leave the last-sent snapshot of its old line. -/
theorem test_snapshot_forgets :
    ((after (.patchHead 10 1#8 61 3 5 1) (withLine { Line.powerOn with snapshot := [⟨61, 5, 6⟩, ⟨62, 7, 8⟩] })).line 5).snapshot
        = [⟨62, 7, 8⟩]
      ∧ ((after (.unpatchHead 10 1#8 61) (withLine { Line.powerOn with snapshot := [⟨61, 5, 6⟩, ⟨62, 7, 8⟩] })).line 5).snapshot
        = [⟨62, 7, 8⟩] := by
  decide

/-- The rig with head 62 waiting for its re-home beside head 61, the homing count at its limit of 4; head 61 has a HOME entry queued. -/
def waitingRehome (c : Condition) (queue : List QueryEntry) : State :=
  let s := ((((rig.setHeadPatch 62 (HeadPatch.seeded ⟨3, 0, 1⟩ spot)).setWatch 62 { Watch.unpatched with stage := .queued }).setWatch 61
    { Watch.unpatched with condition := c, stage := .homing }).setLine 5 { Line.powerOn with queue := queue })
  { s with supervision := { s.supervision with rehomeQueue := [62], homingCount := 4, homingLimit := 4 } }

/-- R15: a HOMING head's unpatching releases its count, and the dispatch sends the next head; so does the removal of a HOME entry;
without either, nothing is dispatched. -/
theorem test_unpatch_releases :
    (after (.unpatchHead 10 1#8 61) (waitingRehome .homing [])).supervision.rehomeQueue = []
      ∧ (after (.unpatchHead 10 1#8 61) (waitingRehome .homing [])).supervision.homingCount = 4
      ∧ ((after (.unpatchHead 10 1#8 61) (waitingRehome .active [⟨61, .home, .urgent, .supervision⟩])).watch 62).stage = .sent
      ∧ (after (.unpatchHead 10 1#8 61) (waitingRehome .active [])).supervision = { rig.supervision with
          rehomeQueue := [62], homingCount := 4, homingLimit := 4,
          heads := (after (.unpatchHead 10 1#8 61) (waitingRehome .active [])).supervision.heads } := by
  decide

/-- A follow countdown the step brings to 0; a layer in each state the step tells apart; a settled layer. -/
theorem witness_layer_follow : ((playing.setLayer 11 { running with followMs := some 4 }).layer 11).followMs = some 4
    ∧ ((playing.setLayer 11 { running with followMs := some 4 }).layer 11).state = .running
    ∧ ((layerIn .settled none).layer 11).state = .settled
    ∧ (cued.layer 11).state = .idle ∧ ((layerIn .paused (some .running)).layer 11).state = .paused
    ∧ ((finishing .releasing 7).layer 11).state = .releasing ∧ ((finishing .settled 7).layer 11).followMs = some 8 := by decide

/-- R39, R45: within a layer step a follow countdown that runs out makes its GO; with no cue after the current one it is refused. -/
theorem test_layer_step_follows :
    ((after (.layerStep 4000) (playing.setLayer 11 { running with followMs := some 4 })).layer 11).currentCue = some 20
      ∧ ((after (.layerStep 4000) (playing.setLayer 11 { running with followMs := some 4 })).layer 11).followMs = some 5000
      ∧ (after (.layerStep 4000) (playing.setLayer 11 { running with followMs := some 4 })).link.sending =
        some (.notice (.cueTaken 11 20 .follow .go) false)
      ∧ (after (.layerStep 4000) (playing.setLayer 11 { running with followMs := some 4, currentCue := some 20 })).link.sending
        = some (.notice (.takeFailed 11 .follow none .endOfList none) false) := by
  decide +kernel

/-- R148: the settings of a line that stays disabled. -/
theorem test_disabled_line :
    (after (.configureLine 10 1#8 ⟨15, some false, 1, 4, 200⟩) (rig.setLine 15 { disabled with wait := 9 })).line 15 =
      { disabled with settings := ⟨false, 10, 4, 200⟩, wait := 4 } := by
  decide

/-- The rig with heads 61 and 62 HOMING, on lines 5 and 0. -/
def bothHoming : State := (waitingRehome .homing []).setWatch 62 { Watch.unpatched with condition := .homing, stage := .homing }

/-- R155: two HOMING heads, one whose line is disabled, and one whose line is full. -/
theorem witness_poll : (bothHoming.watch 62).condition = .homing ∧ (bothHoming.watch 61).condition = .homing
    ∧ bothHoming.placement 62 = some ⟨3, 0, 1⟩ ∧ (bothHoming.line 0).queue = [] ∧ (bothHoming.line 0).settings.enabled = true
    ∧ ((bothHoming.setLine 5 disabled).line 5).settings.enabled = false
    ∧ 8 ≤ ({ Line.powerOn with queue := List.replicate 8 ⟨62, .status, .routine, .audit⟩ } : Line).queue.length
    ∧ (∃ e ∈ (waiting .routine false 0).queue, e.head = 61) := by decide

/-- R155: both lines start the exchange of their head. -/
theorem test_poll :
    ((after (.supervisionPoll 250000) bothHoming).line 5).turn.exchangeReport = some ⟨61, .status, .supervision, false⟩
      ∧ ((after (.supervisionPoll 250000) bothHoming).line 0).turn.exchangeReport = some ⟨62, .status, .supervision, false⟩ := by
  decide +kernel

/-- R163: a head at each stage, one that is not patched, and a LOAD in flight. -/
theorem witness_clear_condition : (homesQueued.watch 61).stage = .sent ∧ (homing.watch 61).stage = .homing
    ∧ (homing.watch 61).condition = .homing ∧ ((waitingRehome .active []).watch 62).stage = .queued
    ∧ ((waitingRehome .active []).watch 62).condition = .active ∧ (waitingRehome .active []).patched 62 = true
    ∧ rig.patched 62 = false ∧ (loadingSeven cued).loading = true ∧ homesQueued.patched 61 = true
    ∧ homing.loading = false ∧ homing.admits 1#8 = true := by decide

/-- R163: the end of a homing, a head that leaves the re-home queue, and the refusal at stage SENT. -/
theorem test_clear_condition :
    (after (.clearCondition 10 1#8 61) (waitingRehome .homing [])).watch 61 = ⟨.active, 0, 0, none, .none, none⟩
      ∧ ((after (.clearCondition 10 1#8 61) (waitingRehome .homing [])).watch 62).stage = .sent
      ∧ (after (.clearCondition 10 1#8 62) (waitingRehome .active [])).supervision.rehomeQueue = []
      ∧ (after (.clearCondition 10 1#8 61) homesQueued).link.sending = some (.reply ⟨0x5D#8, 1#8, .wrongState, .bare, true⟩) := by
  decide

/-- R163, R160: a raised limit sends the head that waits; an unchanged limit sends none; a limit below the count is raised to it. -/
theorem test_set_audit :
    ((after (.setAudit 10 1#8 5) (waitingRehome .active [])).watch 62).stage = .sent
      ∧ (after (.setAudit 10 1#8 5) (waitingRehome .active [])).link.sending = some (.reply ⟨0x5E#8, 1#8, .ok, .audit 5 5, true⟩)
      ∧ ((after (.setAudit 10 1#8 4) (waitingRehome .active [])).watch 62).stage = .queued
      ∧ (after (.setAudit 10 1#8 1) (waitingRehome .active [])).link.sending =
        some (.reply ⟨0x5E#8, 1#8, .clamped, .audit 4 4, true⟩) := by
  decide

end Sys2Proof.Tests
end

section
/-! SUPPORT. R38: the value of a fade slot, one number at a time. A scalar value is one number and a COLOUR three; each of them
goes from its start to its end by `fadeBetween`, whose truncated quotient never passes the whole difference. -/

namespace Sys2Proof.Machine

open Sys2Proof

/-! ## The fade formula -/

/-- The part of a difference that a fade has covered is at most the difference. -/
theorem mul_div_le_of_le (d : Nat) {num den : Nat} (h : num ≤ den) : d * num / den ≤ d :=
  Nat.div_le_of_le_mul (by rw [Nat.mul_comm den]; exact Nat.mul_le_mul_left d h)

/-- R38: the quotient of a rising fade. -/
theorem tdiv_fade_rising (a d num den : Nat) :
    Int.tdiv ((((a + d : Nat) : Int) - a) * num) den = (d * num / den : Nat) := by
  rw [show ((a + d : Nat) : Int) - a = d by omega, Int.ofNat_tdiv, Int.natCast_mul]

/-- R38: the quotient of a falling fade, truncated toward zero. -/
theorem tdiv_fade_falling (b d num den : Nat) :
    Int.tdiv (((b : Int) - (b + d : Nat)) * num) den = -(d * num / den : Nat) := by
  rw [show (b : Int) - (b + d : Nat) = -d by omega, Int.neg_mul, Int.neg_tdiv, Int.ofNat_tdiv, Int.natCast_mul]

theorem fadeBetween_rising (a d num den : Nat) : fadeBetween a (a + d) num den = a + d * num / den := by
  rw [fadeBetween, tdiv_fade_rising, ← Int.natCast_add, Int.toNat_natCast]

theorem fadeBetween_falling (b d num den : Nat) : fadeBetween (b + d) b num den = b + d - d * num / den := by
  rw [fadeBetween, tdiv_fade_falling, ← Int.sub_eq_add_neg, Int.toNat_sub]

/-- R38: a fade that is not over lies between its ends. -/
theorem fadeBetween_mem_ends (a b : Nat) {num den : Nat} (h : num ≤ den) :
    min a b ≤ fadeBetween a b num den ∧ fadeBetween a b num den ≤ max a b := by
  obtain hab | hba := Nat.le_total a b
  · obtain ⟨d, rfl⟩ := Nat.exists_eq_add_of_le hab
    have covered := mul_div_le_of_le d h
    rw [fadeBetween_rising]
    generalize d * num / den = part at covered ⊢
    omega
  · obtain ⟨d, rfl⟩ := Nat.exists_eq_add_of_le hba
    have covered := mul_div_le_of_le d h
    rw [fadeBetween_falling]
    generalize d * num / den = part at covered ⊢
    omega

/-- R38: `fadeBetween` is the exact formula: its result is never cut at 0. -/
theorem fadeBetween_cast (a b : Nat) {num den : Nat} (h : num ≤ den) :
    (fadeBetween a b num den : Int) = a + Int.tdiv (((b : Int) - a) * num) den := by
  obtain hab | hba := Nat.le_total a b
  · obtain ⟨d, rfl⟩ := Nat.exists_eq_add_of_le hab
    rw [fadeBetween_rising, tdiv_fade_rising, Int.natCast_add]
  · obtain ⟨d, rfl⟩ := Nat.exists_eq_add_of_le hba
    have covered : d * num / den ≤ b + d := (mul_div_le_of_le d h).trans (Nat.le_add_left d b)
    rw [fadeBetween_falling, tdiv_fade_falling, Int.natCast_sub covered, Int.sub_eq_add_neg]

/-! ## The slot before its delay and after its fade -/

theorem Slot.value_before_delay {x : Slot} (h : x.elapsedMs < x.delayMs) : x.value = x.fromVal := by
  rw [Slot.value, if_pos h]

theorem Slot.value_after_fade {x : Slot} (hd : x.delayMs ≤ x.elapsedMs)
    (hf : x.fadeMs = 0 ∨ x.fadeMs ≤ x.elapsedMs - x.delayMs) : x.value = x.toVal := by
  rw [Slot.value, if_neg (Nat.not_lt.mpr hd), if_pos hf]

/-! ## One number of a slot -/

/-- What a slot's times make of one number of its value that goes from `a` to `b`. -/
def Slot.component (x : Slot) (a b : Nat) : Nat :=
  if x.elapsedMs < x.delayMs then a
  else if x.fadeMs = 0 ∨ x.fadeMs ≤ x.elapsedMs - x.delayMs then b
  else fadeBetween a b (x.elapsedMs - x.delayMs) x.fadeMs

theorem Slot.value_scalar {x : Slot} {a b : Nat} (ha : x.fromVal = .scalar a) (hb : x.toVal = .scalar b) :
    x.value = .scalar (x.component a b) := by
  rw [Slot.value, Slot.component, ha, hb, Val.fade]
  split_ifs <;> rfl

theorem Slot.value_triple {x : Slot} {a b : Colour} (ha : x.fromVal = .triple a) (hb : x.toVal = .triple b) :
    x.value = .triple ⟨x.component a.red b.red, x.component a.green b.green, x.component a.blue b.blue⟩ := by
  unfold Slot.value Slot.component
  rw [ha, hb, Val.fade]
  split_ifs <;> rfl

/-- R38: every number of a slot's value lies between its ends, whatever the slot's times. -/
theorem Slot.component_mem_ends (x : Slot) (a b : Nat) : min a b ≤ x.component a b ∧ x.component a b ≤ max a b := by
  unfold Slot.component
  split_ifs with before ended
  · exact ⟨Nat.min_le_left a b, Nat.le_max_left a b⟩
  · exact ⟨Nat.min_le_right a b, Nat.le_max_right a b⟩
  · exact fadeBetween_mem_ends a b (by omega)

theorem Slot.component_within_fade {x : Slot} (a b : Nat) (hd : x.delayMs ≤ x.elapsedMs) (h0 : x.fadeMs ≠ 0)
    (hf : x.elapsedMs - x.delayMs < x.fadeMs) :
    (x.component a b : Int) = a + Int.tdiv (((b : Int) - a) * (x.elapsedMs - x.delayMs : Nat)) x.fadeMs := by
  rw [Slot.component, if_neg (Nat.not_lt.mpr hd), if_neg (not_or.mpr ⟨h0, Nat.not_le.mpr hf⟩)]
  exact fadeBetween_cast a b hf.le

/-- Settles O34, by the phases of the slot and, for the ends, component by component. -/
theorem fadeValueStaysBetweenItsEnds : Obligations.FadeValueStaysBetweenItsEnds := by
  intro x
  refine ⟨Slot.value_before_delay, Slot.value_after_fade, fun a b ha hb => ?scalar, fun a b ha hb => ?colour⟩
  case scalar =>
    obtain ⟨low, high⟩ := x.component_mem_ends a b
    exact ⟨x.component a b, Slot.value_scalar ha hb, low, high, Slot.component_within_fade a b⟩
  case colour =>
    refine ⟨_, Slot.value_triple ha hb, x.component_mem_ends _ _, x.component_mem_ends _ _, x.component_mem_ends _ _, ?_⟩
    intro hd h0 hf
    exact ⟨Slot.component_within_fade _ _ hd h0 hf, Slot.component_within_fade _ _ hd h0 hf,
      Slot.component_within_fade _ _ hd h0 hf⟩

end Sys2Proof.Machine
end

section
/-! SUPPORT. R80 to R83: one axis in one limiter step. A lemma for each rule's own function, then the step of a moving axis as
one choice between arrival, the two ends of the range and free motion. -/

namespace Sys2Proof.Machine

open Sys2Proof

/-! ## R80: the braking bound and the wanted velocity -/

/-- R80: the braking bound is the integer square root of 2 × A × |d|, over the integers. -/
theorem brakingBound_spec (A : Nat) (d : Int) :
    (brakingBound A d : Int) * brakingBound A d ≤ 2 * A * d.natAbs
      ∧ 2 * A * d.natAbs < ((brakingBound A d : Int) + 1) * (brakingBound A d + 1) := by
  obtain ⟨low, high⟩ := isqrt_spec (2 * A * d.natAbs)
  exact ⟨by exact_mod_cast low, by exact_mod_cast high⟩

theorem wantedVelocity_of_pos (S A : Nat) {d : Int} (h : 0 < d) :
    wantedVelocity S A d = min (S : Int) (brakingBound A d) := by
  rw [wantedVelocity, if_pos h, Nat.cast_min]

theorem wantedVelocity_of_neg (S A : Nat) {d : Int} (h : d < 0) :
    wantedVelocity S A d = -min (S : Int) (brakingBound A d) := by
  rw [wantedVelocity, if_neg h.not_gt, if_pos h, Nat.cast_min]

theorem wantedVelocity_of_eq_zero (S A : Nat) {d : Int} (h : d = 0) : wantedVelocity S A d = 0 := by
  rw [wantedVelocity, if_neg h.not_gt, if_neg h.not_lt]

/-! ## R81: the velocity moved toward the wanted velocity -/

theorem nextVelocity_of_within {A : Nat} {v w : Int} (hl : -(A : Int) ≤ w - v) (hh : w - v ≤ A) :
    nextVelocity A v w = w := by
  rw [nextVelocity, if_neg hh.not_gt, if_neg hl.not_gt]

theorem nextVelocity_of_above {A : Nat} {v w : Int} (h : (A : Int) < w - v) : nextVelocity A v w = v + A :=
  if_pos h

theorem nextVelocity_of_below {A : Nat} {v w : Int} (h : w - v < -(A : Int)) : nextVelocity A v w = v - A := by
  rw [nextVelocity, if_neg (by omega), if_pos h]

/-! ## R82 and R83: arrival, range clamp and free motion -/

/-- R82: arrival at target `T`, told by the new position `p` in place of the distance that is left. -/
theorem arrives_iff (d T p : Int) : arrives d (T - p) = true ↔ (0 < d ∧ T ≤ p) ∨ (d < 0 ∧ p ≤ T) := by
  simp [arrives]

/-- R80: an axis at rest on its target is left as it is. -/
theorem stepAxis_of_rest (S A r : Nat) {T : Nat} {x : Axis} (hd : (T : Int) - x.position = 0) (hv : x.velocity = 0) :
    stepAxis S A r T x = x :=
  if_pos ⟨hd, hv⟩

/-- R80, R81: the velocity that a moving axis takes in one step, before arrival and range clamp. -/
def Axis.movedVelocity (x : Axis) (S A T : Nat) : Int :=
  nextVelocity A x.velocity (wantedVelocity S A ((T : Int) - x.position))

/-- R82, R83: the step of an axis that is off its target or moving: arrival first, then the two ends of the range. -/
theorem stepAxis_of_moving (S A r : Nat) {T : Nat} {x : Axis} {p : Int}
    (h : (T : Int) - x.position ≠ 0 ∨ x.velocity ≠ 0) (hp : p = x.position + x.movedVelocity S A T) :
    stepAxis S A r T x =
      if (0 < (T : Int) - x.position ∧ (T : Int) ≤ p) ∨ ((T : Int) - x.position < 0 ∧ p ≤ T) then ⟨T, 0⟩
      else if p < 0 then ⟨0, 0⟩
      else if (r : Int) < p then ⟨r, 0⟩
      else ⟨p.toNat, x.movedVelocity S A T⟩ := by
  subst hp
  have notAtRest : ¬ ((T : Int) - x.position = 0 ∧ x.velocity = 0) := by rwa [not_and_or]
  unfold stepAxis
  simp only [if_neg notAtRest, arrives_iff]
  rfl

/-- Settles O39: the braking bound, the wanted velocity and the moved velocity are the witnesses, each with the lemmas of its
rule; what the step makes of them is `stepAxis_of_moving`, outcome by outcome. -/
theorem axisStepFollowsTheFourRules : Obligations.AxisStepFollowsTheFourRules := by
  intro S A r T x _
  refine ⟨stepAxis_of_rest S A r, fun moving => ?_⟩
  obtain ⟨boundLow, boundHigh⟩ := brakingBound_spec A ((T : Int) - x.position)
  refine ⟨brakingBound A ((T : Int) - x.position), wantedVelocity S A ((T : Int) - x.position), x.movedVelocity S A T,
    x.position + x.movedVelocity S A T, Int.natCast_nonneg _, boundLow, boundHigh, wantedVelocity_of_pos S A,
    wantedVelocity_of_neg S A, wantedVelocity_of_eq_zero S A, nextVelocity_of_within, nextVelocity_of_above,
    nextVelocity_of_below, rfl, ?outcome⟩
  case outcome =>
    rw [stepAxis_of_moving S A r moving rfl]
    split_ifs with arrived below above
    · rfl
    · rfl
    · rfl
    · exact ⟨Int.toNat_of_nonneg (Int.not_lt.mp below), rfl⟩

end Sys2Proof.Machine
end

section
/-! SUPPORT. What every command keeps: the waiting commands and the invariants of the registers, said once as a relation between
the state before and the state after. Each operation is shown to keep them from the operations it is made of. -/

namespace Sys2Proof.Machine

open Sys2Proof

/-- From `s` to `u` the waiting commands are left alone and every invariant that held still holds. -/
structure Keeps (s u : State) : Prop where
  pending : u.pending = s.pending
  notices : s.NoticesBounded → u.NoticesBounded
  beat : s.BeatBounded → u.BeatBounded
  levels : s.LevelsBounded → u.LevelsBounded
  douse : s.DouseHeld → u.DouseHeld
  lines : s.LinesBounded → u.LinesBounded
  stack : s.StackHoldsTaken → u.StackHoldsTaken
  homing : s.HomingBounded → u.HomingBounded
  motion : s.MotionBounded → u.MotionBounded

namespace Keeps

variable {s u v : State}

theorem refl (s : State) : Keeps s s := ⟨rfl, id, id, id, id, id, id, id, id⟩

theorem trans (h : Keeps s u) (k : Keeps u v) : Keeps s v where
  pending := k.pending.trans h.pending
  notices := k.notices ∘ h.notices
  beat := k.beat ∘ h.beat
  levels := k.levels ∘ h.levels
  douse := k.douse ∘ h.douse
  lines := k.lines ∘ h.lines
  stack := k.stack ∘ h.stack
  homing := k.homing ∘ h.homing
  motion := k.motion ∘ h.motion

/-- `trans` with the last step first: what that step is made from is then known when the steps before it are read. -/
theorem after (k : Keeps u v) (h : Keeps s u) : Keeps s v := h.trans k

theorem foldl {α : Type} {f : State → α → State} (h : ∀ s a, Keeps s (f s a)) (l : List α) (s : State) :
    Keeps s (l.foldl f s) := by
  induction l generalizing s with
  | nil => exact .refl s
  | cons a l ih => exact (h s a).trans (ih (f s a))

theorem ite {c : Prop} [Decidable c] {a b : State} (ha : c → Keeps s a) (hb : ¬ c → Keeps s b) :
    Keeps s (if c then a else b) := by
  split
  · exact ha ‹_›
  · exact hb ‹_›

/-! ## One component replaced -/

theorem setNow (s : State) (n : Nat) : Keeps s { s with now := n } := ⟨rfl, id, id, id, id, id, id, id, id⟩

theorem setStartUp (s : State) (r : StartUp) : Keeps s { s with startUp := r } := ⟨rfl, id, id, id, id, id, id, id, id⟩

theorem setLink (l : Link) (h : s.NoticesBounded → l.notices.length ≤ Config.noticeCapacity) :
    Keeps s { s with link := l } := ⟨rfl, h, id, id, id, id, id, id, id⟩

/-- The store may hold the images it held, and one captured from the tables as they stand. -/
theorem setStore (st : Store) (h : ∀ i ∈ st.images, i ∈ s.store.images ∨ i.LinesWait ∧ HomesInRange i.personalities i.heads
    ∨ i = s.capture) : Keeps s { s with store := st } where
  pending := rfl
  notices := id
  beat := id
  levels := id
  douse := id
  stack := id
  homing := id
  lines := by
    rintro ⟨hl, hi⟩
    refine ⟨hl, fun i hm => ?_⟩
    obtain old | fit | rfl := h i hm
    · exact hi i old
    · exact fit.1
    · intro l
      show LineSettings.Waits (Table.get _ (Table.build _ _ _) l)
      rw [Table.get_build]
      split
      · exact (hl l).2.2
      · show 1 ≤ 4
        decide
  motion := by
    rintro ⟨hm, hh, hi⟩
    refine ⟨hm, hh, fun i hmem => ?_⟩
    obtain old | fit | rfl := h i hmem
    · exact hi i old
    · exact fit.2
    · exact hh

theorem setCues (s : State) (c : Cues) : Keeps s { s with cues := c } := ⟨rfl, id, id, id, id, id, id, id, id⟩

theorem setZones (s : State) (z : Zones) : Keeps s { s with zones := z } := ⟨rfl, id, id, id, id, id, id, id, id⟩

theorem setEffects (s : State) (e : Effects) : Keeps s { s with effects := e } := ⟨rfl, id, id, id, id, id, id, id, id⟩

theorem setMerge (m : Merge) (hl : s.LevelsBounded → m.mask ≤ 15)
    (hd : s.DouseHeld → m.douseLine = true → m.douseLatch = true) : Keeps s { s with merge := m } :=
  ⟨rfl, id, id, fun h => ⟨hl h, h.2⟩, hd, id, id, id, id⟩

theorem setPlayback (p : Playback) (h : s.StackHoldsTaken → State.StackHoldsTaken { s with playback := p }) :
    Keeps s { s with playback := p } := ⟨rfl, id, id, id, id, id, h, id, id⟩

theorem setInputs (x : Inputs) (hb : s.BeatBounded → State.BeatBounded { s with inputs := x })
    (hf : s.LevelsBounded → x.floor ≤ 15) : Keeps s { s with inputs := x } :=
  ⟨rfl, id, hb, fun h => ⟨h.1, hf h⟩, id, id, id, id, id⟩

theorem setSupervision (x : Supervision) (h : s.HomingBounded → State.HomingBounded { s with supervision := x }) :
    Keeps s { s with supervision := x } := ⟨rfl, id, id, id, id, id, id, h, id⟩

/-- The patch and the limiter may change together. -/
theorem setMotionTables (p : Patch) (x : Limiter)
    (h : s.MotionBounded → State.MotionBounded { s with patch := p, limiter := x }) :
    Keeps s { s with patch := p, limiter := x } := ⟨rfl, id, id, id, id, id, id, id, h⟩

end Keeps

/-! ## The link -/

variable (s : State)

theorem advance_keeps (t : Nat) : Keeps s (s.advance t) := .setNow s _

theorem notify_keeps (n : Notice) : Keeps s (s.notify n) := by
  unfold State.notify
  refine .ite (fun room => .setLink _ fun _ => ?_) fun _ => .setLink _ id
  simpa using room

theorem startTransmit_keeps : Keeps s s.startTransmit := by
  unfold State.startTransmit
  split
  · exact .refl s
  · exact .setLink _ id
  · next n ns _ e => exact .setLink _ fun h => by simpa [State.NoticesBounded, e] using Nat.le_of_succ_le (by simpa [State.NoticesBounded, e] using h)
  · exact .refl s

theorem enqueueReply_keeps (r : Reply) : Keeps s (s.enqueueReply r) := .setLink _ id

theorem deferredTag_keeps (tag : Byte) : Keeps s (s.deferredTag tag) := .setLink _ id

theorem answerDeferred_keeps (kind tag : Byte) (status : Status) (body : ReplyBody) :
    Keeps s (s.answerDeferred kind tag status body) := .setLink _ id

theorem withAssembler_keeps (a : Assembler) : Keeps s (s.withAssembler a) := .setLink _ id

theorem clearNotices_keeps : Keeps s s.clearNotices := .setLink _ fun _ => Nat.zero_le _

theorem command_keeps {f : State → State} (h : ∀ u, Keeps u (f u)) (t : Nat) :
    Keeps s (f (s.advance t)).startTransmit :=
  ((advance_keeps s t).trans (h _)).trans (startTransmit_keeps _)

/-- The owner of a request keeps what every command keeps. -/
def OwnerKeeps (own : Owner) : Prop := ∀ tag s, Keeps s (own tag s).1

theorem serve_keeps {own : Owner} (h : OwnerKeeps own) (tag kind : Byte) : Keeps s (s.serve tag kind own) := by
  have kept := h tag s
  unfold State.serve
  split
  · next e => rw [e] at kept; exact kept.trans (enqueueReply_keeps _ _)
  · next e => rw [e] at kept; exact kept.trans (deferredTag_keeps _ _)

theorem handle_keeps {own : Owner} (h : OwnerKeeps own) (tag kind : Byte) (always : Bool) :
    Keeps s (s.handle tag kind always own) := by
  unfold State.handle
  exact .ite (fun _ => .refl s) fun _ => .ite (fun _ => enqueueReply_keeps _ _) fun _ =>
    .ite (fun _ => enqueueReply_keeps _ _) fun _ => serve_keeps s h tag kind

/-! ## Answers of an owner -/

namespace Keeps

variable {s}

theorem refuse (status : Status) : Keeps s (Machine.refuse status s).1 := .refl s

/-- An owner's case distinction: the state it answers with is that of the branch taken. -/
theorem answer {c : Prop} [Decidable c] {a b : State × Answer} (ha : c → Keeps s a.1) (hb : ¬ c → Keeps s b.1) :
    Keeps s (if c then a else b).1 := by
  split
  · exact ha ‹_›
  · exact hb ‹_›

end Keeps

end Sys2Proof.Machine
end

section
/-! SUPPORT. What every command keeps, block by block: the merge, the limiter, the zones, the effects and the lines. -/

namespace Sys2Proof.Machine

open Sys2Proof

variable (s : State)

/-! ## Merge -/

theorem withMask_keeps (v : Int) : Keeps s (s.withMask v) :=
  .setMerge _ (fun _ => clamp_le 0 15 v (by decide)) id

theorem withMode_keeps (m : RigMode) : Keeps s (s.withMode m) := .setMerge _ (·.1) id

/-- The latch may be set in any state, and cleared while the douse line is not asserted. -/
theorem setDouseLatch_keeps (v : Bool) (cause : DouseCause) (h : s.merge.douseLine = true → v = true) :
    Keeps s (s.setDouseLatch v cause) := by
  unfold State.setDouseLatch
  exact .ite (fun _ => .refl s) fun _ => (notify_keeps _ _).after (.setMerge _ (·.1) fun _ => h)

theorem assertDouse_keeps : Keeps s s.assertDouse := by
  have asserted : s.assertDouse = ({ s with merge := ⟨s.merge.mask, s.merge.mode, true, true⟩ } : State)
      ∨ s.assertDouse = ({ s with merge := ⟨s.merge.mask, s.merge.mode, true, true⟩ } : State).notify (.douse true true .line) := by
    unfold State.assertDouse State.setDouseLatch
    split
    · next e => left; rw [← show s.merge.douseLatch = true from e]
    · exact .inr rfl
  have latched : Keeps s { s with merge := ⟨s.merge.mask, s.merge.mode, true, true⟩ } := .setMerge _ (·.1) fun _ _ => rfl
  obtain e | e := asserted <;> rw [e]
  · exact latched
  · exact latched.trans (notify_keeps _ _)

theorem deassertDouse_keeps : Keeps s { s with merge.douseLine := false } :=
  .setMerge _ (·.1) fun _ h => Bool.noConfusion h

theorem resetMerge_keeps : Keeps s s.resetMerge :=
  (Keeps.setMerge { s.merge with mask := 0, mode := .run } (fun _ => Nat.zero_le _) id).trans
    (setDouseLatch_keeps _ _ _ id)

theorem ownSetMask_keeps (v : Int) : OwnerKeeps (ownSetMask v) := fun _ s => withMask_keeps s v

theorem ownMode_keeps (m : RigMode) : OwnerKeeps (ownMode m) := fun _ s => withMode_keeps s m

theorem ownClearDouse_keeps : OwnerKeeps ownClearDouse := fun _ s =>
  .answer (fun _ => .refl s) fun h => setDouseLatch_keeps s _ _ fun asserted => absurd asserted h

/-! ## Zones and effects -/

theorem setZone_keeps (z : Nat) (v : Zone) : Keeps s (s.setZone z v) := .setZones s _

theorem withZoneWrite_keeps (v : Bool) : Keeps s (s.withZoneWrite v) := .setZones s _

theorem ownEnableZoneWrite_keeps : OwnerKeeps ownEnableZoneWrite := fun _ s => withZoneWrite_keeps s true

theorem ownSetZone_keeps (z : ZoneReq) : OwnerKeeps (ownSetZone z) := by
  intro _ s
  unfold ownSetZone
  split
  · exact withZoneWrite_keeps s _
  · exact (setZone_keeps s _ _).trans (withZoneWrite_keeps _ _)

theorem ownClearZone_keeps (z : Nat) : OwnerKeeps (ownClearZone z) := by
  intro _ s
  unfold ownClearZone
  split
  · exact withZoneWrite_keeps s _
  · exact (setZone_keeps s _ _).trans (withZoneWrite_keeps _ _)

theorem setGenerator_keeps (g : Nat) (v : Generator) : Keeps s (s.setGenerator g v) := .setEffects s _

theorem quarterBeat_keeps : Keeps s s.quarterBeat :=
  .ite (fun _ => .foldl (fun u _ => setGenerator_keeps u _ _) _ s) fun _ => .refl s

theorem blinkToggle_keeps (g : Nat) : Keeps s (s.blinkToggle g) :=
  .ite (fun _ => setGenerator_keeps s _ _) fun _ => .refl s

theorem resetGenerators_keeps : Keeps s s.resetGenerators := .foldl (fun u _ => setGenerator_keeps u _ _) _ s

theorem ownSetBlinkGenerator_keeps (g : Nat) (rate : Int) (mark : Option RunMark) :
    OwnerKeeps (ownSetBlinkGenerator g rate mark) := by
  intro _ s
  unfold ownSetBlinkGenerator
  split
  · exact .refl s
  · exact .answer (fun _ => .refl s) fun _ => setGenerator_keeps s _ _

/-! ## Lines -/

/-- R141, R143: the bounds of one line. -/
def Line.Bounded (y : Line) : Prop :=
  y.queue.length ≤ Config.queryQueue ∧ y.wait ≤ y.settings.maxWait ∧ y.settings.Waits

theorem LinesBounded.line {s : State} (h : s.LinesBounded) (l : Nat) : (s.line l).Bounded := h.1 l

theorem setLine_keeps {s : State} {l : Nat} {v : Line} (h : s.LinesBounded → v.Bounded) : Keeps s (s.setLine l v) where
  pending := rfl
  notices := id
  beat := id
  levels := id
  douse := id
  stack := id
  homing := id
  motion := id
  lines := fun bounded => ⟨fun k => by
    rw [line_setLine]
    split
    · exact h bounded
    · exact bounded.1 k, bounded.2⟩

/-- A line whose queue, wait counter and settings are not made larger. -/
theorem setLine_keeps_of_le {s : State} {l : Nat} {v : Line} (hq : v.queue.length ≤ (s.line l).queue.length)
    (hw : v.wait ≤ (s.line l).wait) (hs : v.settings = (s.line l).settings) : Keeps s (s.setLine l v) :=
  setLine_keeps fun bounded => ⟨hq.trans (bounded.1 l).1, hs ▸ hw.trans (bounded.1 l).2.1, hs ▸ (bounded.1 l).2.2⟩

theorem startRefresh_keeps (l : Nat) : Keeps s (s.startRefresh l) := setLine_keeps_of_le le_rfl le_rfl rfl

theorem threshold_le_maxWait {y : Line} (h : y.settings.Waits) : y.threshold ≤ y.settings.maxWait := by
  unfold Line.threshold
  split
  · exact h
  · exact le_rfl

/-- R141: a query that is granted is the oldest of the queue. -/
theorem grant_query {y : Line} {now slots : Nat} {e : QueryEntry} {rest : List QueryEntry}
    (h : y.grant now slots = .query e rest) : y.queue = e :: rest := by
  unfold Line.grant at h
  split at h
  · cases h
  · split at h
    · split at h <;> cases h
    · next e' rest' hq =>
      split at h
      · cases h; exact hq
      · split at h <;> cases h

/-- R141: a refresh goes ahead of a query only while the wait counter is below its threshold. -/
theorem grant_ahead {y : Line} {now slots : Nat} (h : y.grant now slots = .refresh true) : y.wait < y.threshold := by
  unfold Line.grant at h
  split at h
  · cases h
  · split at h
    · split at h <;> cases h
    · split at h
      · cases h
      · next c => simp at c; omega

theorem startExchange_keeps {s : State} {l : Nat} {e : QueryEntry} {rest : List QueryEntry} (h : (s.line l).queue = e :: rest) :
    Keeps s (s.startExchange l e rest) :=
  setLine_keeps_of_le (by simp [h]) (Nat.zero_le _) rfl

theorem decideTurn_keeps (l : Nat) : Keeps s (s.decideTurn l) := by
  unfold State.decideTurn
  split
  · exact .refl s
  · exact startRefresh_keeps s l
  · next ahead =>
    refine (startRefresh_keeps _ l).after (setLine_keeps fun bounded => ?_)
    have below := grant_ahead ahead
    have most := threshold_le_maxWait (bounded.1 l).2.2
    exact ⟨(bounded.1 l).1, by dsimp only; omega, (bounded.1 l).2.2⟩
  · next query => exact startExchange_keeps (grant_query query)

theorem endTurn_keeps (l : Nat) : Keeps s (s.endTurn l) :=
  (decideTurn_keeps _ l).after (setLine_keeps_of_le le_rfl le_rfl rfl)

theorem slotCountChanged_keeps (l before : Nat) : Keeps s (s.slotCountChanged l before) :=
  .ite (fun _ => setLine_keeps_of_le le_rfl le_rfl rfl) fun _ =>
    .ite (fun _ => (decideTurn_keeps _ l).after (setLine_keeps_of_le le_rfl le_rfl rfl)) fun _ => .refl s

theorem addQuery_keeps {s s' : State} {l : Nat} {e : QueryEntry} (h : s.addQuery l e = some s') : Keeps s s' := by
  rw [addQuery_eq] at h
  split at h
  · next accepted =>
    obtain rfl := Option.some.inj h
    have room : (s.line l).queue.length < Config.queryQueue := by simp [Line.accepts] at accepted; exact accepted.2
    refine (decideTurn_keeps _ l).after (setLine_keeps fun bounded => ⟨?_, (bounded.1 l).2⟩)
    simpa using room
  · cases h

theorem tryQuery_keeps (l : Nat) (e : QueryEntry) : Keeps s (s.tryQuery l e) := by
  unfold State.tryQuery
  split
  · next added => exact addQuery_keeps added
  · exact .refl s

theorem abortEntry_keeps (e : QueryEntry) : Keeps s (s.abortEntry e) := by
  unfold State.abortEntry
  split
  · exact answerDeferred_keeps s _ _ _ _
  · exact .refl s
  · exact .refl s

theorem abortEntries_keeps (es : List QueryEntry) : Keeps s (s.abortEntries es) := .foldl abortEntry_keeps es s

theorem dropQueries_keeps (l : Nat) (p : QueryEntry → Bool) : Keeps s (s.dropQueries l p) := by
  refine (abortEntries_keeps _ _).after (setLine_keeps_of_le (List.length_filter_le _ _) ?_ rfl)
  dsimp only
  split <;> omega

theorem discardExchange_keeps (l h : Nat) (how : QueryKind → Discard) : Keeps s (s.discardExchange l h how) := by
  unfold State.discardExchange
  split
  · exact .ite (fun _ => setLine_keeps_of_le le_rfl le_rfl rfl) fun _ => .refl s
  · exact .refl s
  · exact .refl s

theorem refreshExpiry_keeps (l : Nat) : Keeps s (s.refreshExpiry l) :=
  .ite (fun _ => (decideTurn_keeps _ l).after (setLine_keeps_of_le le_rfl le_rfl rfl)) fun _ => .refl s

theorem refreshEnd_keeps (l : Nat) : Keeps s (s.refreshEnd l) := by
  unfold State.refreshEnd
  split
  · exact endTurn_keeps s l
  · exact .refl s
  · exact .refl s

theorem queryEnd_keeps (l : Nat) : Keeps s (s.queryEnd l) := by
  unfold State.queryEnd
  split
  · split
    · exact .ite (fun _ => (abortEntry_keeps s _).trans (endTurn_keeps _ l)) fun _ => setLine_keeps_of_le le_rfl le_rfl rfl
    · exact .refl s
  · exact .refl s
  · exact .refl s

theorem ownQueryHead_keeps (h : Nat) (priority : Option Priority) : OwnerKeeps (ownQueryHead h priority) := by
  intro tag s
  unfold ownQueryHead
  split
  · exact .refl s
  · refine .answer (fun _ => .refl s) fun _ => ?_
    split
    · exact .refl s
    · refine .answer (fun _ => .refl s) fun _ => ?_
      split
      · exact .refl s
      · next added => exact addQuery_keeps added

end Sys2Proof.Machine
end

section
/-! SUPPORT. What every command keeps: supervision and playback. -/

namespace Sys2Proof.Machine

open Sys2Proof

variable (s : State)

/-! ## Supervision -/

theorem setWatch_keeps (h : Nat) (w : Watch) : Keeps s (s.setWatch h w) := .setSupervision _ id

theorem moveCondition_keeps (h : Nat) (w : Watch) (c : ConditionCause) : Keeps s (s.moveCondition h w c) := by
  unfold State.moveCondition
  exact .ite (fun _ => setWatch_keeps s h w) fun _ => (notify_keeps _ _).after (setWatch_keeps s h w)

theorem leaveRehome_keeps (h : Nat) : Keeps s (s.leaveRehome h) := .setSupervision _ id

theorem joinRehome_keeps (h : Nat) : Keeps s (s.joinRehome h) := .setSupervision _ id

theorem lowerHoming_keeps (n : Nat) : Keeps s (s.lowerHoming n) :=
  .setSupervision _ fun ⟨most, range⟩ => ⟨(Nat.sub_le _ n).trans most, range⟩

theorem resetSupervision_keeps : Keeps s s.resetSupervision :=
  .setSupervision _ fun ⟨_, range⟩ => ⟨Nat.zero_le _, range⟩

/-- R160: an entry is sent only while the homing count is below its limit. -/
theorem dispatchHead_keeps (h : Nat) : Keeps s (s.dispatchHead h) := by
  unfold State.dispatchHead
  split
  · next below =>
    split
    · exact .refl s
    · split
      · exact .refl s
      · next added =>
        have kept := addQuery_fields s _ _ _ added
        refine (Keeps.setSupervision _ fun ⟨_, range⟩ => ⟨?_, range⟩).after
          ((leaveRehome_keeps _ h).after ((setWatch_keeps _ h _).after (addQuery_keeps added)))
        simpa [kept] using below
  · exact .refl s

theorem dispatch_keeps : Keeps s s.dispatch := .foldl dispatchHead_keeps _ s

theorem endSent_keeps (h : Nat) : Keeps s (s.endSent h) :=
  (dispatch_keeps _).after ((lowerHoming_keeps _ 1).after (setWatch_keeps s h _))

theorem motorFault_keeps (h : Nat) : Keeps s (s.motorFault h) := by
  unfold State.motorFault
  refine .ite (fun _ => .refl s) fun _ => ?_
  split
  · exact moveCondition_keeps s h _ _
  · exact (moveCondition_keeps _ h _ _).after (leaveRehome_keeps s h)
  · exact moveCondition_keeps s h _ _
  · exact (dispatch_keeps _).after ((lowerHoming_keeps _ 1).after (moveCondition_keeps s h _ _))

theorem startHoming_keeps (h : Nat) : Keeps s (s.startHoming h) := moveCondition_keeps s h _ _

theorem finishHoming_keeps (h : Nat) : Keeps s (s.finishHoming h) :=
  (dispatch_keeps _).after ((lowerHoming_keeps _ 1).after (moveCondition_keeps s h _ _))

theorem strike_keeps (h : Nat) : Keeps s (s.strike h) :=
  .ite (fun _ => .ite
      (fun _ => (dispatch_keeps _).after ((joinRehome_keeps _ h).after (moveCondition_keeps s h _ _)))
      fun _ => moveCondition_keeps s h _ _)
    fun _ => setWatch_keeps s h _

theorem judgeDrift_keeps (h : Nat) (j : Judge) (r : Reported) : Keeps s (s.judgeDrift h j r) :=
  .ite (fun _ => .refl s) fun _ => .ite (fun _ => strike_keeps s h) fun _ => setWatch_keeps s h _

theorem statusReply_keeps (h : Nat) (j : Judge) (r : Reported) : Keeps s (s.statusReply h j r) := by
  unfold State.statusReply
  split
  · exact .ite (fun _ => .refl s) fun _ => finishHoming_keeps s h
  · exact (judgeDrift_keeps _ h j r).after (moveCondition_keeps s h _ _)
  · exact judgeDrift_keeps s h j r
  · exact judgeDrift_keeps s h j r
  · exact .refl s

theorem recordReply_keeps (h : Nat) (kind : QueryKind) (j : Judge) (r : Reported) : Keeps s (s.recordReply h kind j r) :=
  .ite (fun _ => setWatch_keeps s h _) fun _ => (notify_keeps _ _).after (setWatch_keeps s h _)

theorem handleReply_keeps (h : Nat) (kind : QueryKind) (j : Judge) (r : Reported) : Keeps s (s.handleReply h kind j r) := by
  unfold State.handleReply
  extract_lets s1 s2
  have recorded : Keeps s s1 := recordReply_keeps s h kind j r
  have faulted : Keeps s s2 := .ite (fun _ => (motorFault_keeps _ h).after recorded) fun _ => recorded
  split
  · exact (endSent_keeps _ h).after faulted
  · exact (startHoming_keeps _ h).after faulted
  · exact faulted
  · exact (statusReply_keeps _ h j r).after faulted

theorem miss_keeps (h : Nat) : Keeps s (s.miss h) :=
  .ite (fun _ => moveCondition_keeps s h _ _) fun _ => setWatch_keeps s h _

theorem handleNoReply_keeps (h : Nat) (kind : QueryKind) : Keeps s (s.handleNoReply h kind) := by
  unfold State.handleNoReply
  split
  · exact miss_keeps s h
  · exact (endSent_keeps _ h).after (miss_keeps s h)

theorem answerQuery_keeps (e : QueryEntry) (outcome : Option Reported) : Keeps s (s.answerQuery e outcome) := by
  unfold State.answerQuery
  split
  · exact answerDeferred_keeps s _ _ _ _
  · exact answerDeferred_keeps s _ _ _ _
  · exact .refl s
  · exact .refl s

theorem supervise_keeps (x : Exchange) (outcome : Option Reported) : Keeps s (s.supervise x outcome) := by
  unfold State.supervise
  split
  · exact handleReply_keeps s _ _ _ _
  · exact handleNoReply_keeps s _ _

theorem handOn_keeps (x : Exchange) (outcome : Option Reported) : Keeps s (s.handOn x outcome) := by
  unfold State.handOn
  refine .ite (fun _ => abortEntry_keeps s _) fun _ => ?_
  split
  · exact (answerQuery_keeps _ _ _).after (supervise_keeps s x outcome)
  · exact (abortEntry_keeps _ _).after ((dispatch_keeps _).after (lowerHoming_keeps s 1))
  · exact abortEntry_keeps s _
  · exact abortEntry_keeps s _
  · exact abortEntry_keeps s _

theorem endExchange_keeps (l : Nat) (outcome : Option Reported) : Keeps s (s.endExchange l outcome) := by
  unfold State.endExchange
  split
  · split
    · exact (endTurn_keeps _ l).after (handOn_keeps s _ outcome)
    · exact .refl s
  · exact .refl s
  · exact .refl s

theorem audit_keeps (l : Nat) : Keeps s (s.audit l) := by
  unfold State.audit
  split
  · exact .refl s
  · have moved : ∀ c, Keeps s (s.setLine l { s.line l with auditCursor := c }) := fun c =>
      setLine_keeps_of_le le_rfl le_rfl rfl
    exact .ite (fun _ => moved _) fun _ => (tryQuery_keeps _ l _).after (moved _)

theorem auditExpiry_keeps (l : Nat) : Keeps s (s.auditExpiry l) :=
  .ite (fun _ => (audit_keeps _ l).after (setLine_keeps_of_le le_rfl le_rfl rfl)) fun _ => .refl s

theorem pollHead_keeps (h : Nat) : Keeps s (s.pollHead h) := by
  unfold State.pollHead
  split
  · exact .refl s
  · exact .ite (fun _ => tryQuery_keeps s _ _) fun _ => .refl s

theorem poll_keeps : Keeps s s.poll :=
  (dispatch_keeps _).after ((Keeps.foldl pollHead_keeps _ _).after (.setSupervision { s.supervision with pollTimer := _ } id))

theorem homingExpiry_keeps (h : Nat) : Keeps s (s.homingExpiry h) :=
  .ite (fun _ => (dispatch_keeps _).after ((lowerHoming_keeps _ 1).after (moveCondition_keeps s h _ _))) fun _ => .refl s

theorem ownRehomeHead_keeps (h : Nat) : OwnerKeeps (ownRehomeHead h) := fun _ s =>
  .answer (fun _ => .refl s) fun _ => .answer (fun _ => .refl s) fun _ => .answer (fun _ => .refl s) fun _ =>
    .answer (fun _ => .refl s) fun _ => (dispatch_keeps _).after (joinRehome_keeps s h)

theorem clearCondition_keeps (h : Nat) : Keeps s (s.clearCondition h) := by
  unfold State.clearCondition
  dsimp only
  split
  · exact (dispatch_keeps _).after ((lowerHoming_keeps _ 1).after (moveCondition_keeps s h _ _))
  · exact (moveCondition_keeps _ h _ _).after (leaveRehome_keeps s h)
  · exact moveCondition_keeps s h _ _
  · exact moveCondition_keeps s h _ _

theorem ownClearCondition_keeps (h : Nat) : OwnerKeeps (ownClearCondition h) := fun _ s =>
  .answer (fun _ => .refl s) fun _ => .answer (fun _ => .refl s) fun _ => .answer (fun _ => .refl s) fun _ =>
    .answer (fun _ => .refl s) fun _ => clearCondition_keeps s h

/-- R163: the limit a SET AUDIT gives lies within 1 to 16 and is at least the homing count. -/
theorem setLimit_keeps (v : Int) : Keeps s { s with supervision.homingLimit := s.auditLimit v } :=
  .setSupervision _ fun ⟨most, _, high⟩ =>
    ⟨le_max_right _ _, (le_clamp 1 16 v (by decide)).trans (le_max_left _ _),
      max_le (clamp_le 1 16 v (by decide)) (most.trans high)⟩

theorem ownSetAudit_keeps (v : Int) : OwnerKeeps (ownSetAudit v) := fun _ s =>
  .ite (fun _ => setLimit_keeps s v) fun _ => (dispatch_keeps _).after (setLimit_keeps s v)

theorem takeBackHome_keeps (e : QueryEntry) : Keeps s (s.takeBackHome e) :=
  .ite (fun _ => .ite (fun _ => (setWatch_keeps _ _ _).after (lowerHoming_keeps s 1))
      fun _ => ((lowerHoming_keeps s 1).trans (setWatch_keeps _ _ _)).trans (.setSupervision _ id))
    fun _ => .refl s

theorem disableLine_keeps (l : Nat) : Keeps s (s.disableLine l) := by
  have taken : Keeps s ((s.line l).queue.reverse.foldl State.takeBackHome
      ((s.dropQueries l (fun _ => true)).setLine l { (s.dropQueries l (fun _ => true)).line l with
        wait := 0, refreshTimer := none, auditTimer := none, refreshDue := false })) :=
    (Keeps.foldl takeBackHome_keeps _ _).after
      ((dropQueries_keeps s l _).trans (setLine_keeps_of_le le_rfl (Nat.zero_le _) rfl))
  exact .ite (fun _ => taken) fun _ => (dispatch_keeps _).after taken

theorem enableLine_keeps (l : Nat) : Keeps s (s.enableLine l) := by
  have started : Keeps s (s.setLine l { s.line l with auditTimer := some (s.now + 1000 * (s.line l).settings.auditMs) }) :=
    setLine_keeps_of_le le_rfl le_rfl rfl
  exact .ite (fun _ => started) fun _ =>
    (decideTurn_keeps _ l).after (started.trans (setLine_keeps_of_le le_rfl le_rfl rfl))

theorem configureLine_keeps (l : Nat) {c : LineSettings} (h : c.Waits) : Keeps s (s.configureLine l c) := by
  have replaced : Keeps s (s.setLine l { s.line l with settings := c, wait := min (s.line l).wait c.maxWait }) :=
    setLine_keeps fun bounded => ⟨(bounded.1 l).1, min_le_right _ _, h⟩
  exact .ite (fun _ => (disableLine_keeps _ l).after replaced) fun _ =>
    .ite (fun _ => (enableLine_keeps _ l).after replaced) fun _ => replaced

theorem lineSettings_waits (c : LineReq) (enabled : Bool) : (lineSettings c enabled).Waits :=
  le_clamp 1 15 _ (by decide)

theorem ownConfigureLine_keeps (c : LineReq) : OwnerKeeps (ownConfigureLine c) := by
  intro _ s
  refine .answer (fun _ => .refl s) fun _ => ?_
  split
  · exact .refl s
  · exact .answer (fun _ => .refl s) fun _ => configureLine_keeps s _ (lineSettings_waits c _)

/-! ## Playback -/

/-- A layer replaced by one that is IDLE exactly when it was. -/
theorem setLayer_keeps {s : State} {l : Nat} {y : Layer} (h : y.state = .idle ↔ (s.layer l).state = .idle) :
    Keeps s (s.setLayer l y) :=
  .setPlayback _ fun ⟨once, taken⟩ => ⟨once, fun k => by
    show k ∈ s.playback.takeStack ↔ ((s.setLayer l y).layer k).state ≠ _
    rw [taken k, layer_setLayer]
    split
    · next e => rw [e, ne_eq, ne_eq, h]
    · rfl⟩

/-- A layer taken: not IDLE, and at the top of the take stack. -/
theorem toTop_keeps {s : State} {l : Nat} {y : Layer} (h : y.state ≠ .idle) : Keeps s ((s.setLayer l y).toTop l) :=
  .setPlayback _ fun ⟨once, taken⟩ => by
    refine ⟨?_, fun k => ?_⟩
    · refine List.Nodup.append (once.erase l) (List.nodup_singleton l) ?_
      simpa using fun h => ((once.mem_erase_iff).mp h).1 rfl
    · show k ∈ s.playback.takeStack.erase l ++ [l] ↔ ((s.setLayer l y).layer k).state ≠ _
      rw [List.mem_append, List.mem_singleton, once.mem_erase_iff, layer_setLayer, taken k]
      split
      · next e => simp [e, h]
      · next e => simp [e]

theorem clearLayer_keeps (l : Nat) : Keeps s (s.clearLayer l) :=
  .setPlayback _ fun ⟨once, taken⟩ => by
    refine ⟨once.erase l, fun k => ?_⟩
    show k ∈ s.playback.takeStack.erase l ↔ ((s.setLayer l (s.layer l).cleared).layer k).state ≠ _
    rw [once.mem_erase_iff, layer_setLayer, taken k]
    split
    · next e => simp [e, Layer.cleared]
    · next e => simp [e]

theorem clearLayers_keeps : Keeps s s.clearLayers := .foldl clearLayer_keeps _ s

theorem writeTake_keeps (l : Nat) (c : Cue) (slots : List Slot) : Keeps s (s.writeTake l c slots) :=
  toTop_keeps (by simp [Layer.afterTake])

theorem takeCue_keeps {s s' : State} {l : Nat} {c : Cue} {i : TakeInfo} (h : s.takeCue l c = .taken s' i) : Keeps s s' := by
  unfold State.takeCue at h
  dsimp only at h
  split at h
  · cases h
  · cases h; exact writeTake_keeps s _ _ _

theorem gotoCue_keeps {s s' : State} {l : Nat} {cs : List Cue} {c : Cue} {i : TakeInfo}
    (h : s.gotoCue l cs c = .taken s' i) : Keeps s s' := by
  unfold State.gotoCue at h
  dsimp only at h
  split at h
  · cases h
  · cases h; exact writeTake_keeps s _ _ _

theorem goTake_keeps {s s' : State} {l : Nat} {i : TakeInfo} (h : s.goTake l = .taken s' i) : Keeps s s' := by
  obtain ⟨_, _, c, _, _, _, rfl⟩ := goTake_taken s l s' i h
  exact writeTake_keeps s _ _ _

theorem gotoTake_keeps {s s' : State} {l n : Nat} {i : TakeInfo} (h : s.gotoTake l n = .taken s' i) : Keeps s s' := by
  unfold State.gotoTake at h
  split at h
  · cases h
  · split at h
    · cases h
    · split at h
      · cases h
      · split at h
        · cases h
        · exact gotoCue_keeps h

theorem reportedGo_keeps (l : Nat) (source : TakeSource) : Keeps s (s.reportedGo l source) := by
  unfold State.reportedGo
  split
  · exact notify_keeps s _
  · next taken => exact (notify_keeps _ _).after (goTake_keeps taken)

theorem followTake_keeps (l : Nat) : Keeps s (s.followTake l) :=
  (reportedGo_keeps _ l _).after (setLayer_keeps Iff.rfl)

theorem chaseTake_keeps (l : Nat) : Keeps s (s.chaseTake l) :=
  (reportedGo_keeps _ l _).after (setLayer_keeps Iff.rfl)

theorem beatLayer_keeps (l : Nat) : Keeps s (s.beatLayer l) :=
  .ite (fun _ => chaseTake_keeps s l) fun _ => .ite (fun _ => setLayer_keeps Iff.rfl) fun _ => .refl s

theorem beatLayers_keeps : Keeps s s.beatLayers :=
  .ite (fun _ => .foldl beatLayer_keeps _ s) fun _ => .refl s

theorem timecodeTake_keeps {s s' : State} {l : Nat} {c : Cue} {i : TakeInfo}
    (h : (s.timecodeTake l c).1 = .taken s' i) : Keeps s s' := by
  unfold State.timecodeTake at h
  split at h
  · split at h
    · cases h
    · exact takeCue_keeps h
  · exact gotoTake_keeps h

theorem reportTimecode_keeps {s : State} {l n : Nat} {r : TakeResult × TakeKind}
    (h : ∀ s' i, r.1 = .taken s' i → Keeps s s') : Keeps s (s.reportTimecode l n r) := by
  unfold State.reportTimecode
  split
  · exact (notify_keeps _ _).after (h _ _ rfl)
  · exact .ite (fun _ => .refl s) fun _ => (notify_keeps _ _).after (setLayer_keeps Iff.rfl)

theorem timecodeLayer_keeps (f l : Nat) : Keeps s (s.timecodeLayer f l) := by
  unfold State.timecodeLayer
  refine .ite (fun _ => ?_) fun _ => .refl s
  split
  · exact .refl s
  · exact .ite (fun _ => .refl s) fun _ => reportTimecode_keeps fun _ _ => timecodeTake_keeps

theorem timecodeLayers_keeps (f : Nat) : Keeps s (s.timecodeLayers f) :=
  .ite (fun _ => .foldl (fun u l => timecodeLayer_keeps u f l) _ s) fun _ => .refl s

/-! ## The layer step -/

theorem Layer.advance_state (y : Layer) : y.advance.state = y.state := by unfold Layer.advance; split <;> rfl

theorem Layer.dropFadeOuts_state (y : Layer) : y.dropFadeOuts.state = y.state := by unfold Layer.dropFadeOuts; split <;> rfl

/-- R39: a layer that settles was RUNNING, so no layer becomes IDLE or leaves IDLE here. -/
theorem Layer.settle_idle (y : Layer) : y.settle.state = .idle ↔ y.state = .idle := by
  unfold Layer.settle
  split
  · next h => simp [h.1]
  · rfl

theorem finishRelease_keeps (l : Nat) : Keeps s (s.finishRelease l) :=
  .ite (fun _ => clearLayer_keeps s l) fun _ => .refl s

theorem countFollow_keeps (l : Nat) : Keeps s (s.countFollow l) :=
  .ite (fun _ => followTake_keeps s l) fun _ => .ite (fun _ => setLayer_keeps Iff.rfl) fun _ => .refl s

theorem stepLayer_keeps (l : Nat) : Keeps s (s.stepLayer l) := by
  refine (countFollow_keeps _ l).after ((finishRelease_keeps _ l).after (setLayer_keeps ?_))
  rw [Layer.settle_idle, Layer.dropFadeOuts_state, Layer.advance_state]

theorem layerStep_keeps : Keeps s s.layerStep := by
  have timed : Keeps s { s with playback.stepTimer := s.now + Config.stepUs } := .setPlayback _ id
  exact .ite (fun _ => (Keeps.foldl stepLayer_keeps _ _).after timed) fun _ => timed

theorem followExpiry_keeps (l : Nat) : Keeps s (s.followExpiry l) :=
  .ite (fun _ => followTake_keeps s l) fun _ => .refl s

theorem chaseExpiry_keeps (l : Nat) : Keeps s (s.chaseExpiry l) :=
  .ite (fun _ => chaseTake_keeps s l) fun _ => .refl s

/-! ## Pause, resume, release and the requests of the layers -/

theorem pauseLayer_keeps {s s' : State} {l : Nat} (h : s.pauseLayer l = some s') : Keeps s s' := by
  obtain ⟨f, paused, rfl⟩ := Option.map_eq_some_iff.mp h
  refine setLayer_keeps ?_
  cases e : (s.layer l).state <;> simp [e, LayerState.pausable] at paused ⊢

theorem resumeLayer_keeps {s s' : State} {l : Nat} (h : s.resumeLayer l = some s') : Keeps s s' := by
  unfold State.resumeLayer at h
  split at h
  · next paused =>
    obtain ⟨f, _, rfl⟩ := Option.map_eq_some_iff.mp h
    refine setLayer_keeps ?_
    cases f <;> simp [PausedFrom.state, paused]
  · cases h

theorem releaseLayer_keeps {s s' : State} {l : Nat} (h : s.releaseLayer l = some s') : Keeps s s' := by
  unfold State.releaseLayer at h
  dsimp only at h
  split at h
  · cases h
  · next taken =>
    obtain rfl := Option.some.inj h
    exact setLayer_keeps (by simp [taken])

theorem ownGo_keeps (l : Nat) : OwnerKeeps (ownGo l) := by
  intro _ s
  unfold ownGo
  split
  · exact .refl s
  · next taken => exact goTake_keeps taken

theorem ownGoto_keeps (l n : Nat) : OwnerKeeps (ownGoto l n) := by
  intro _ s
  unfold ownGoto
  split
  · exact .refl s
  · next taken => exact gotoTake_keeps taken

theorem layerStateReply_keeps {s : State} {r : Option State} (l : Nat) (h : ∀ s', r = some s' → Keeps s s') :
    Keeps s (layerStateReply l s r).1 := by
  unfold layerStateReply
  split
  · exact h _ rfl
  · exact .refl s

theorem ownPause_keeps (l : Nat) : OwnerKeeps (ownPause l) := fun _ s =>
  .answer (fun _ => .refl s) fun _ => layerStateReply_keeps l fun _ => pauseLayer_keeps

theorem ownResume_keeps (l : Nat) : OwnerKeeps (ownResume l) := fun _ s =>
  .answer (fun _ => .refl s) fun _ => layerStateReply_keeps l fun _ => resumeLayer_keeps

theorem ownRelease_keeps (l : Nat) : OwnerKeeps (ownRelease l) := by
  intro _ s
  refine .answer (fun _ => .refl s) fun _ => ?_
  split
  · next released => exact releaseLayer_keeps released
  · exact .refl s

theorem ownKill_keeps (l : Nat) : OwnerKeeps (ownKill l) := fun _ s =>
  .answer (fun _ => .refl s) fun _ => clearLayer_keeps s l

theorem ownLayerSetting_keeps (l : Nat) (clamped : Bool) (f : LayerSettings → LayerSettings) :
    OwnerKeeps (ownLayerSetting l clamped f) := fun _ s =>
  .answer (fun _ => .refl s) fun _ => .answer (fun _ => .refl s) fun _ => setLayer_keeps Iff.rfl

theorem ownIntensityMode_keeps (l : Nat) (mode : Option IntensityMode) : OwnerKeeps (ownIntensityMode l mode) := by
  intro tag s
  unfold ownIntensityMode
  split
  · exact ownLayerSetting_keeps l _ _ tag s
  · exact .answer (fun _ => .refl s) fun _ => .refl s

theorem ownLayerMode_keeps (l : Nat) (mode : Option LayerMode) : OwnerKeeps (ownLayerMode l mode) := by
  intro _ s
  refine .answer (fun _ => .refl s) fun _ => ?_
  split
  · exact .refl s
  · exact .answer (fun _ => .refl s) fun _ => .answer (fun _ => .refl s) fun _ => setLayer_keeps Iff.rfl

theorem ownAssignList_keeps (l : Nat) (list : Option Nat) : OwnerKeeps (ownAssignList l list) := fun _ s =>
  .answer (fun _ => .refl s) fun _ => .answer (fun _ => .refl s) fun _ => .answer (fun _ => .refl s) fun _ =>
    .answer (fun _ => .refl s) fun _ => setLayer_keeps Iff.rfl

end Sys2Proof.Machine
end

section
/-! SUPPORT. Folds over the numbers of a table: what the last state reads at a number is what its own visit left there. -/

namespace Sys2Proof

/-- A table written at each number of a list reads there as written. -/
theorem Table.get_foldl_put {α : Type} [DecidableEq α] (d : α) (f : Nat → α) (ks : List Nat) (m : Table α) (k : Nat) :
    Table.get d (ks.foldl (fun m i => Table.put d m i (f i)) m) k = if k ∈ ks then f k else Table.get d m k := by
  induction ks generalizing m with
  | nil => simp
  | cons i ks ih =>
    rw [List.foldl_cons, ih, Table.get_put]
    by_cases here : k = i
    · subst here; simp
    · simp [here]

namespace Machine

/-- A read that no visit changes is as before the fold. -/
theorem foldl_read {α β : Type} {f : State → α → State} (read : State → β) {l : List α}
    (same : ∀ u, ∀ a ∈ l, read (f u a) = read u) (s : State) : read (l.foldl f s) = read s := by
  induction l generalizing s with
  | nil => rfl
  | cons a l ih =>
    rw [List.foldl_cons, ih (fun u b hb => same u b (List.mem_cons_of_mem a hb)), same s a List.mem_cons_self]

/-- Where a visit changes what is read at its own number alone, the fold leaves at a number what the visit there left, made in
the state that the visits before it led to. -/
theorem foldl_visit {β : Type} {f : State → Nat → State} {read : State → Nat → β}
    (other : ∀ u l k, k ≠ l → read (f u l) k = read u k) {ks : List Nat} (once : ks.Nodup) {k : Nat} (hk : k ∈ ks) (s : State) :
    ∃ before : List Nat, read (before.foldl f s) k = read s k
      ∧ read (ks.foldl f s) k = read (f (before.foldl f s) k) k := by
  obtain ⟨before, behind, rfl⟩ := List.append_of_mem hk
  rw [List.nodup_append, List.nodup_cons] at once
  obtain ⟨_, ⟨notBehind, _⟩, apart⟩ := once
  refine ⟨before, foldl_read (read · k) (fun u a ha => other u a k fun e => apart a ha k List.mem_cons_self e.symm) s, ?_⟩
  rw [List.foldl_append, List.foldl_cons]
  exact foldl_read (read · k) (fun u a ha => other u a k fun e => notBehind (e ▸ ha)) _

/-- Where a visit changes what is read at its own number alone, a number that is not visited reads as before. -/
theorem foldl_unvisited {β : Type} {f : State → Nat → State} {read : State → Nat → β}
    (other : ∀ u l k, k ≠ l → read (f u l) k = read u k) {ks : List Nat} {k : Nat} (hk : k ∉ ks) (s : State) :
    read (ks.foldl f s) k = read s k :=
  foldl_read (read · k) (fun u a ha => other u a k fun e => hk (e ▸ ha)) s

/-- Where each visit replaces what is read at its own number by a function of it, the fold does so once at each number visited. -/
theorem foldl_update {β : Type} {f : State → Nat → State} {read : State → Nat → β} {g : Nat → β → β}
    (own : ∀ u l k, read (f u l) k = if k = l then g l (read u l) else read u k) {ks : List Nat} (once : ks.Nodup) (s : State)
    (k : Nat) : read (ks.foldl f s) k = if k ∈ ks then g k (read s k) else read s k := by
  have other : ∀ u l k, k ≠ l → read (f u l) k = read u k := fun u l k apart => by rw [own, if_neg apart]
  split
  · next hk =>
    obtain ⟨before, unvisited, visited⟩ := foldl_visit other once hk s
    rw [visited, own, if_pos rfl, unvisited]
  · next hk => exact foldl_unvisited other hk s

end Machine

end Sys2Proof
end

section
/-! SUPPORT. What every command keeps: cue memory, the patch and the limiter. -/

namespace Sys2Proof.Machine

open Sys2Proof

variable (s : State)

/-! ## Cue memory -/

theorem setList_keeps (n : Nat) (v : Option CueList) : Keeps s (s.setList n v) := .setCues s _

theorem clearAssignments_keeps (ls : List Nat) : Keeps s (s.clearAssignments ls) := by
  refine .foldl (fun _ _ => ?_) ls s
  exact setLayer_keeps Iff.rfl

theorem ownCreateList_keeps (n : Nat) : OwnerKeeps (ownCreateList n) := by
  intro _ s
  unfold ownCreateList
  split
  · exact .refl s
  · exact setList_keeps s _ _

theorem ownSetListLock_keeps (n : Nat) (lock : Option Bool) : OwnerKeeps (ownSetListLock n lock) := by
  intro _ s
  refine .answer (fun _ => .refl s) fun _ => ?_
  split
  · exact .refl s
  · refine .answer (fun _ => .refl s) fun _ => ?_
    split
    · exact .refl s
    · exact setList_keeps s _ _

theorem ownStoreCue_keeps (c : CueReq) : OwnerKeeps (ownStoreCue c) := by
  intro _ s
  refine .answer (fun _ => .refl s) fun _ => .answer (fun _ => .refl s) fun _ => .answer (fun _ => .refl s) fun _ => ?_
  split
  · exact .refl s
  · exact .answer (fun _ => .refl s) fun _ => .answer (fun _ => .refl s) fun _ => setList_keeps s _ _

theorem ownAppendEntries_keeps (list : Nat) (number : BitVec 16) (es : List EntryReq) (stray : Bool) :
    OwnerKeeps (ownAppendEntries list number es stray) := by
  intro _ s
  refine .answer (fun _ => .refl s) fun _ => .answer (fun _ => .refl s) fun _ => .answer (fun _ => .refl s) fun _ => ?_
  split
  · exact .refl s
  · split
    · exact .refl s
    · exact .answer (fun _ => .refl s) fun _ => .answer (fun _ => .refl s) fun _ => setList_keeps s _ _

theorem ownDeleteCue_keeps (list : Nat) (number : BitVec 16) : OwnerKeeps (ownDeleteCue list number) := by
  intro _ s
  refine .answer (fun _ => .refl s) fun _ => .answer (fun _ => .refl s) fun _ => ?_
  split
  · exact .refl s
  · exact .answer (fun _ => .refl s) fun _ => .answer (fun _ => .refl s) fun _ => setList_keeps s _ _

theorem ownDeleteList_keeps (n : Nat) : OwnerKeeps (ownDeleteList n) := by
  intro _ s
  refine .answer (fun _ => .refl s) fun _ => .answer (fun _ => .refl s) fun _ => ?_
  split
  · exact .refl s
  · exact .answer (fun _ => .refl s) fun _ => .answer (fun _ => .refl s) fun _ =>
      (clearAssignments_keeps _ _).after (setList_keeps s _ _)

/-! ## The patched heads -/

theorem patched_iff (h : Nat) : s.patched h = true ↔ ∃ p, s.placement h = some p := Option.isSome_iff_exists

/-- The list of the patched heads holds every head that is patched. -/
theorem mem_patchedHeads (h : Nat) : h ∈ s.patchedHeads ↔ s.patched h = true := by
  refine ⟨fun mem => (List.mem_filter.mp mem).2, fun patched => List.mem_filter.mpr ⟨?_, patched⟩⟩
  refine Table.mem_keys_of_get_ne HeadPatch.unpatched _ _ fun e => ?_
  have : (s.headPatch h).placement = none := congrArg HeadPatch.placement e
  rw [State.patched, State.placement, this] at patched
  cases patched

theorem patched_of_personalityOf {h : Nat} {q : Personality} (hq : s.personalityOf h = some q) : s.patched h = true := by
  obtain ⟨p, hp, _⟩ := Option.bind_eq_some_iff.mp hq
  exact (patched_iff s h).mpr ⟨p, hp⟩

@[simp] theorem placement_setHeadPatch (i h : Nat) (c : HeadPatch) :
    (s.setHeadPatch i c).placement h = if h = i then c.placement else s.placement h := by
  rw [State.placement, headPatch_setHeadPatch, apply_ite HeadPatch.placement]; rfl

@[simp] theorem personalityOf_setHeadPatch (i h : Nat) (c : HeadPatch) :
    (s.setHeadPatch i c).personalityOf h =
      if h = i then c.placement.bind (fun p => s.personality p.personality) else s.personalityOf h := by
  rw [State.personalityOf, placement_setHeadPatch]
  split <;> rfl

theorem not_personalityInUse {p : Nat} (h : ¬ s.personalityInUse p = true) {k : Nat} {q : Placement}
    (hq : s.placement k = some q) : q.personality ≠ p := fun e =>
  h (List.any_eq_true.mpr ⟨k, (mem_patchedHeads s k).mpr ((patched_iff s k).mpr ⟨q, hq⟩), by simp [hq, e]⟩)

/-! ## Positions and velocities -/

/-- R6, R85: a head's home position and its motion are within the bounds of its personality. -/
structure HeadFits (c : HeadPatch) (m : Option Motion) (q : Personality) : Prop where
  homePan : c.homePan ≤ q.panRange
  homeTilt : c.homeTilt ≤ q.tiltRange
  motion : ∀ x, m = some x → x.pan.Within q.panRange c.maxSpeed ∧ x.tilt.Within q.tiltRange c.maxSpeed

theorem motionBounded_iff : s.MotionBounded ↔
    (∀ h q, s.personalityOf h = some q → HeadFits (s.headPatch h) (s.motion h) q)
      ∧ ∀ i ∈ s.store.images, HomesInRange i.personalities i.heads := by
  constructor
  · rintro ⟨motion, homes, images⟩
    refine ⟨fun h q hq => ?_, images⟩
    obtain ⟨p, hp, hpq⟩ := Option.bind_eq_some_iff.mp hq
    obtain ⟨pan, tilt⟩ := homes h p q hp hpq
    exact ⟨pan, tilt, fun x hx => motion h q x hq hx⟩
  · rintro ⟨fits, images⟩
    refine ⟨fun h q m hq hm => (fits h q hq).motion m hm, fun h p q hp hpq => ?_, images⟩
    have fit := fits h q (Option.bind_eq_some_iff.mpr ⟨p, hp, hpq⟩)
    exact ⟨fit.homePan, fit.homeTilt⟩

/-- The patch and the limiter changed together so that every patched head fits. -/
theorem keeps_of_headFits {s : State} (p : Patch) (x : Limiter)
    (fits : (∀ h q, s.personalityOf h = some q → HeadFits (s.headPatch h) (s.motion h) q) → ∀ h q,
      State.personalityOf { s with patch := p, limiter := x } h = some q →
        HeadFits (State.headPatch { s with patch := p, limiter := x } h) (State.motion { s with patch := p, limiter := x } h) q) :
    Keeps s { s with patch := p, limiter := x } :=
  .setMotionTables p x fun bounded => by
    obtain ⟨before, images⟩ := (motionBounded_iff s).mp bounded
    exact (motionBounded_iff _).mpr ⟨fits before, images⟩

/-- One head's patch record and motion changed together. -/
theorem setHead_keeps {s : State} {h : Nat} {c : HeadPatch} {m : Option Motion}
    (fits : ∀ q, (c.placement.bind fun p => s.personality p.personality) = some q →
      (∀ q', s.personalityOf h = some q' → HeadFits (s.headPatch h) (s.motion h) q') → HeadFits c m q) :
    Keeps s ((s.setHeadPatch h c).setMotion h m) :=
  keeps_of_headFits (s.setHeadPatch h c).patch (s.setMotion h m).limiter fun before k q hq => by
    show HeadFits ((s.setHeadPatch h c).headPatch k) ((s.setMotion h m).motion k) q
    replace hq : (s.setHeadPatch h c).personalityOf k = some q := hq
    rw [personalityOf_setHeadPatch] at hq
    rw [headPatch_setHeadPatch, motion_setMotion]
    split at hq
    · next e => subst e; simpa using fits q hq (before k)
    · next e => simpa [e] using before k q hq

/-- A head's patch record changed, its motion kept. -/
theorem setHeadPatch_keeps {s : State} {h : Nat} {c : HeadPatch}
    (fits : ∀ q, (c.placement.bind fun p => s.personality p.personality) = some q →
      (∀ q', s.personalityOf h = some q' → HeadFits (s.headPatch h) (s.motion h) q') → HeadFits c (s.motion h) q) :
    Keeps s (s.setHeadPatch h c) :=
  keeps_of_headFits (s.setHeadPatch h c).patch s.limiter fun before k q hq => by
    show HeadFits ((s.setHeadPatch h c).headPatch k) (s.motion k) q
    replace hq : (s.setHeadPatch h c).personalityOf k = some q := hq
    rw [personalityOf_setHeadPatch] at hq
    rw [headPatch_setHeadPatch]
    split at hq
    · next e => subst e; simpa using fits q hq (before k)
    · next e => simpa [e] using before k q hq

theorem setPersonality_keeps {s : State} {p : Nat} (v : Personality) (unused : ¬ s.personalityInUse p = true) :
    Keeps s (s.setPersonality p v) :=
  keeps_of_headFits (s.setPersonality p v).patch s.limiter fun before k q hq => by
    obtain ⟨place, hplace, hpq⟩ := Option.bind_eq_some_iff.mp hq
    replace hpq : (s.setPersonality p v).personality place.personality = some q := hpq
    rw [personality_setPersonality, if_neg (not_personalityInUse s unused hplace)] at hpq
    exact before k q (Option.bind_eq_some_iff.mpr ⟨place, hplace, hpq⟩)

theorem natAbs_cutVelocity_le (speed : Nat) (v : Int) : (cutVelocity speed v).natAbs ≤ speed := by
  unfold cutVelocity
  split
  · omega
  · split <;> omega

theorem natAbs_nextVelocity_le {accel speed : Nat} {v w : Int} (hv : v.natAbs ≤ speed) (hw : w.natAbs ≤ speed) :
    (nextVelocity accel v w).natAbs ≤ speed := by
  unfold nextVelocity
  split
  · omega
  · split <;> omega

theorem natAbs_wantedVelocity_le (speed accel : Nat) (d : Int) : (wantedVelocity speed accel d).natAbs ≤ speed := by
  unfold wantedVelocity
  split
  · omega
  · split <;> omega

/-- R85: a limiter step keeps an axis within its range and its max speed. -/
theorem stepAxis_within {speed range target : Nat} (accel : Nat) {x : Axis} (hx : x.Within range speed) (ht : target ≤ range) :
    (stepAxis speed accel range target x).Within range speed := by
  unfold stepAxis
  extract_lets d v p
  split
  · exact hx
  · split
    · exact ⟨ht, Nat.zero_le _⟩
    · split
      · exact ⟨Nat.zero_le _, Nat.zero_le _⟩
      · split
        · exact ⟨le_rfl, Nat.zero_le _⟩
        · exact ⟨by dsimp only; omega, natAbs_nextVelocity_le hx.2 (natAbs_wantedVelocity_le _ _ _)⟩

theorem rebase_within (range speed : Nat) (x : Axis) : (x.rebase range speed).Within range speed := by
  unfold Axis.rebase
  split
  · exact ⟨le_rfl, Nat.zero_le _⟩
  · exact ⟨by dsimp only; omega, natAbs_cutVelocity_le _ _⟩

theorem cut_within {range speed : Nat} (new : Nat) {x : Axis} (hx : x.Within range speed) :
    Axis.Within { x with velocity := cutVelocity new x.velocity } range new :=
  ⟨hx.1, natAbs_cutVelocity_le _ _⟩

theorem limiterStep_motion (h : Nat) :
    s.limiterStep.motion h = if s.patched h = true then s.steppedMotion h else s.motion h := by
  show Table.get none (s.patchedHeads.foldl _ _) h = _
  rw [Table.get_foldl_put]
  simp only [mem_patchedHeads]
  rfl

theorem limiterStep_keeps : Keeps s s.limiterStep :=
  keeps_of_headFits s.patch s.limiterStep.limiter fun before h q hq => by
    have fit := before h q hq
    refine ⟨fit.homePan, fit.homeTilt, fun x hx => ?_⟩
    replace hx : s.limiterStep.motion h = some x := hx
    rw [limiterStep_motion, if_pos (patched_of_personalityOf s hq), State.steppedMotion, show s.personalityOf h = some q from hq] at hx
    cases hm : s.motion h with
    | none => rw [hm] at hx; cases hx
    | some m =>
      rw [hm] at hx
      obtain rfl := Option.some.inj hx
      obtain ⟨pan, tilt⟩ := fit.motion m hm
      exact ⟨stepAxis_within _ pan (min_le_right _ _), stepAxis_within _ tilt (min_le_right _ _)⟩

/-! ## The patch -/

theorem setGroup_keeps (g : Nat) (v : BitVec 512) : Keeps s (s.setGroup g v) :=
  keeps_of_headFits (s.setGroup g v).patch s.limiter fun before => before

theorem assignBlink_keeps (hs : List Nat) (g : Option Nat) (mask : BlinkMask) : Keeps s (s.assignBlink hs g mask) := by
  refine .foldl (fun _ _ => ?_) hs s
  refine setHeadPatch_keeps fun q hq before => ?_
  obtain ⟨homePan, homeTilt, motion⟩ := before q hq
  exact ⟨homePan, homeTilt, motion⟩

theorem ownSetBlinkAssignment_keeps (target : Option BlinkTarget) (g : Option Nat) (mask : Option BlinkMask) :
    OwnerKeeps (ownSetBlinkAssignment target g mask) := by
  intro _ s
  refine .answer (fun _ => .refl s) fun _ => ?_
  split
  · exact .answer (fun _ => .refl s) fun _ => .answer (fun _ => .refl s) fun _ => assignBlink_keeps s _ _ _
  · exact .refl s

theorem ownDefinePersonality_keeps (p : PersonalityReq) : OwnerKeeps (ownDefinePersonality p) := by
  intro _ s
  refine .answer (fun _ => .refl s) fun _ => .answer (fun _ => .refl s) fun _ => .answer (fun _ => .refl s) fun unused =>
    .answer (fun _ => .refl s) fun _ => ?_
  split
  · exact setPersonality_keeps _ unused
  · exact .refl s

theorem forgetSent_keeps (l h : Nat) : Keeps s (s.forgetSent l h) := setLine_keeps_of_le le_rfl le_rfl rfl

theorem seeded_fits (p : Placement) (q : Personality) :
    HeadFits (HeadPatch.seeded p q) (some (Motion.fresh (q.panRange / 2) (q.tiltRange / 2))) q where
  homePan := Nat.div_le_self _ _
  homeTilt := Nat.div_le_self _ _
  motion := fun _ hx => by
    obtain rfl := Option.some.inj hx
    exact ⟨⟨Nat.div_le_self _ _, Nat.zero_le _⟩, ⟨Nat.div_le_self _ _, Nat.zero_le _⟩⟩

theorem patchFresh_keeps {s : State} (h : Nat) {p : Placement} {q : Personality} (hq : s.personality p.personality = some q) :
    Keeps s (s.patchFresh h p q) := by
  refine (slotCountChanged_keeps _ _ _).after ((setWatch_keeps _ _ _).after (setHead_keeps fun q' hq' _ => ?_))
  obtain rfl : q = q' := Option.some.inj (hq.symm.trans hq')
  exact seeded_fits p q

theorem moved_fits {s : State} {h : Nat} {old p : Placement} {q : Personality} (hold : s.placement h = some old)
    (hq : s.personality p.personality = some q)
    (before : ∀ q', s.personalityOf h = some q' → HeadFits (s.headPatch h) (s.motion h) q') :
    HeadFits ((s.headPatch h).moved old p q)
      ((s.motion h).map (Motion.rebase q ((s.headPatch h).moved old p q).maxSpeed)) q := by
  have rebased : ∀ x, (s.motion h).map (Motion.rebase q ((s.headPatch h).moved old p q).maxSpeed) = some x →
      x.pan.Within q.panRange ((s.headPatch h).moved old p q).maxSpeed
        ∧ x.tilt.Within q.tiltRange ((s.headPatch h).moved old p q).maxSpeed := by
    intro x hx
    obtain ⟨m, _, rfl⟩ := Option.map_eq_some_iff.mp hx
    exact ⟨rebase_within _ _ _, rebase_within _ _ _⟩
  have homes : ((s.headPatch h).moved old p q).homePan ≤ q.panRange
      ∧ ((s.headPatch h).moved old p q).homeTilt ≤ q.tiltRange := by
    unfold HeadPatch.moved
    split
    · next same =>
      have fit := before q (Option.bind_eq_some_iff.mpr ⟨old, hold, same ▸ hq⟩)
      exact ⟨fit.homePan, fit.homeTilt⟩
    · exact ⟨min_le_right _ _, min_le_right _ _⟩
  exact ⟨homes.1, homes.2, rebased⟩

theorem moved_placement (c : HeadPatch) (old p : Placement) (q : Personality) : (c.moved old p q).placement = some p := by
  unfold HeadPatch.moved
  split <;> rfl

theorem dropTraffic_keeps (h : Nat) (old p : Placement) : Keeps s (s.dropTraffic h old p) :=
  .ite (fun _ => .refl s) fun _ => (discardExchange_keeps _ _ _ _).after (dropQueries_keeps s _ _)

theorem slotCountsChanged_keeps (before : State) (ls : List Nat) : Keeps s (State.slotCountsChanged before s ls) :=
  .foldl (fun u l => slotCountChanged_keeps u l _) ls s

theorem repatch_keeps {s : State} {h : Nat} {old p : Placement} {q : Personality} (hold : s.placement h = some old)
    (hq : s.personality p.personality = some q) : Keeps s (s.repatch h old p q) := by
  refine (slotCountsChanged_keeps _ _ _).after ((dropTraffic_keeps _ _ _ _).after ((forgetSent_keeps _ _ _).after
    ((setWatch_keeps _ _ _).after (setHead_keeps fun q' hq' before => ?_))))
  obtain rfl : q = q' := by
    rw [moved_placement] at hq'
    exact Option.some.inj (hq.symm.trans hq')
  exact moved_fits hold hq before

theorem ownPatchHead_keeps (head personality line base : Nat) : OwnerKeeps (ownPatchHead head personality line base) := by
  intro _ s
  refine .answer (fun _ => .refl s) fun _ => .answer (fun _ => .refl s) fun _ => ?_
  split
  · exact .refl s
  · next q hq =>
    refine .answer (fun _ => .refl s) fun _ => ?_
    split
    · exact .answer (fun _ => .refl s) fun _ => patchFresh_keeps head hq
    · next old hold =>
      exact .answer (fun _ => .refl s) fun _ => .answer (fun _ => .refl s) fun _ => .answer (fun _ => .refl s) fun _ =>
        repatch_keeps hold hq

theorem ownSetHead_keeps (h : HeadReq) : OwnerKeeps (ownSetHead h) := by
  intro _ s
  refine .answer (fun _ => .refl s) fun _ => ?_
  split
  · exact .refl s
  · refine .answer (fun _ => .refl s) fun _ => ?_
    split
    · exact .refl s
    · next q hq =>
      refine setHeadPatch_keeps fun q' hq' before => ?_
      obtain rfl : q = q' := Option.some.inj (hq.symm.trans hq')
      exact ⟨clamp_le 0 _ _ (Nat.zero_le _), clamp_le 0 _ _ (Nat.zero_le _), (before q hq).motion⟩

theorem withLimits_keeps (h speed accel : Nat) : Keeps s (s.withLimits h speed accel) := by
  refine setHead_keeps fun q hq before => ?_
  have fit := before q hq
  refine ⟨fit.homePan, fit.homeTilt, fun x hx => ?_⟩
  obtain ⟨m, hm, rfl⟩ := Option.map_eq_some_iff.mp hx
  obtain ⟨pan, tilt⟩ := fit.motion m hm
  exact ⟨cut_within speed pan, cut_within speed tilt⟩

theorem ownSetHeadLimits_keeps (h : Nat) (speed accel : Int) : OwnerKeeps (ownSetHeadLimits h speed accel) := fun _ s =>
  .answer (fun _ => .refl s) fun _ => .answer (fun _ => .refl s) fun _ => .answer (fun _ => .refl s) fun _ =>
    withLimits_keeps s _ _ _

theorem dropSlots_keeps (h : Nat) : Keeps s (s.dropSlots h) := by
  refine .foldl (fun _ _ => ?_) _ s
  exact setLayer_keeps Iff.rfl

theorem dropWatch_keeps (l h : Nat) : Keeps s (s.dropWatch l h) :=
  (lowerHoming_keeps _ _).after ((moveCondition_keeps _ _ _ _).after ((leaveRehome_keeps _ _).after
    ((discardExchange_keeps _ _ _ _).after (dropQueries_keeps s _ _))))

theorem unpatch_keeps (h l : Nat) : Keeps s (s.unpatch h l) := by
  have removed : Keeps s (((((s.dropSlots h).dropWatch l h).forgetSent l h).setHeadPatch h HeadPatch.unpatched).setMotion h none) := by
    refine Keeps.after (setHead_keeps fun q hq _ => ?_)
      ((forgetSent_keeps _ l h).after ((dropWatch_keeps _ l h).after (dropSlots_keeps s h)))
    cases hq
  exact .ite (fun _ => (slotCountChanged_keeps _ _ _).after removed) fun _ =>
    (dispatch_keeps _).after ((slotCountChanged_keeps _ _ _).after removed)

theorem ownUnpatchHead_keeps (h : Nat) : OwnerKeeps (ownUnpatchHead h) := by
  intro _ s
  refine .answer (fun _ => .refl s) fun _ => .answer (fun _ => .refl s) fun _ => ?_
  split
  · exact .refl s
  · exact unpatch_keeps s _ _

theorem ownDefineGroup_keeps (g : Nat) (marks : BitVec 512) : OwnerKeeps (ownDefineGroup g marks) := fun _ s =>
  .answer (fun _ => .refl s) fun _ => .answer (fun _ => .refl s) fun _ => setGroup_keeps s g marks

end Sys2Proof.Machine
end

section
/-! SUPPORT. What every command keeps: the show inputs, the show store, the console link, and with them every command. -/

namespace Sys2Proof.Machine

open Sys2Proof

variable (s : State)

/-! ## Beat -/

/-- The beat part replaced by one within its bounds. -/
theorem setBeat_keeps {s : State} {b : Beat} (h : s.BeatBounded → State.BeatBounded (s.setBeat b)) : Keeps s (s.setBeat b) :=
  .setInputs _ h (·.2)

/-- A change of the beat part that leaves its history and period. -/
theorem setBeat_keeps_of_same {s : State} {b : Beat} (history : b.history = s.inputs.beat.history)
    (period : b.period = s.inputs.beat.period) (missed : b.missed ≤ 1 ∨ b.missed = s.inputs.beat.missed) :
    Keeps s (s.setBeat b) :=
  setBeat_keeps fun ⟨short, accepted, low, high, few⟩ => by
    refine ⟨?_, ?_, ?_, ?_, ?_⟩
    · show b.history.length ≤ 4
      rwa [history]
    · show ∀ i ∈ b.history, _
      rwa [history]
    · show _ ≤ b.period
      rwa [period]
    · show b.period ≤ _
      rwa [period]
    · show b.missed ≤ 1
      obtain h | h := missed
      · exact h
      · rwa [h]

theorem intervalAccepted_iff (i : Nat) : intervalAccepted i = true ↔ Config.minBeatUs ≤ i ∧ i ≤ Config.maxBeatUs :=
  decide_eq_true_iff

theorem mem_appendInterval {l : List Nat} {i x : Nat} (h : x ∈ appendInterval l i) : x ∈ l ∨ x = i := by
  unfold appendInterval at h
  rw [List.mem_append, List.mem_singleton] at h
  refine h.imp_left fun h => ?_
  split at h
  · exact h
  · exact List.mem_of_mem_drop h

theorem length_appendInterval {l : List Nat} (i : Nat) (h : l.length ≤ 4) : (appendInterval l i).length ≤ 4 := by
  unfold appendInterval
  split <;> simp <;> omega

theorem total_eq_sum (l : List Nat) : total l = l.sum := List.sum_eq_foldl.symm

/-- A mean of numbers that lie between two bounds lies between them. -/
theorem meanInterval_mem {l : List Nat} {lo hi : Nat} (h : ∀ i ∈ l, lo ≤ i ∧ i ≤ hi) (nonempty : l ≠ []) :
    lo ≤ meanInterval l ∧ meanInterval l ≤ hi := by
  have pos : 0 < l.length := List.length_pos_iff.mpr nonempty
  have low : l.length * lo ≤ l.sum := by simpa using List.card_nsmul_le_sum l lo fun i hi => (h i hi).1
  have high : l.sum ≤ l.length * hi := by simpa using List.sum_le_card_nsmul l hi fun i hi => (h i hi).2
  rw [meanInterval, total_eq_sum]
  exact ⟨(Nat.le_div_iff_mul_le pos).mpr (by rwa [Nat.mul_comm]), Nat.div_le_of_le_mul high⟩

theorem beatPulse_setBeat_keeps : Keeps s (s.setBeat (s.inputs.beat.pulse s.now)) := by
  unfold Beat.pulse
  split
  · exact setBeat_keeps_of_same rfl rfl (.inr rfl)
  · split
    · next i _ ok =>
      refine setBeat_keeps fun ⟨short, accepted, _, _, few⟩ => ?_
      have fits : ∀ x ∈ appendInterval s.inputs.beat.history i, Config.minBeatUs ≤ x ∧ x ≤ Config.maxBeatUs := by
        intro x hx
        obtain h | rfl := mem_appendInterval hx
        · exact accepted x h
        · exact (intervalAccepted_iff _).mp ok
      have mean := meanInterval_mem fits (by simp [appendInterval])
      exact ⟨length_appendInterval i short, fits, mean.1, mean.2, few⟩
    · exact setBeat_keeps_of_same rfl rfl (.inr rfl)

theorem notifyBeat_keeps (cause : BeatCause) : Keeps s (s.notifyBeat cause) := notify_keeps s _

theorem beatEvent_keeps : Keeps s s.beatEvent :=
  Keeps.trans ((beatLayers_keeps s).trans (quarterBeat_keeps _)) (setBeat_keeps_of_same rfl rfl (.inr rfl))

theorem externalPulse_keeps : Keeps s s.externalPulse :=
  (beatEvent_keeps _).after (setBeat_keeps_of_same rfl rfl (.inl (Nat.zero_le _)))

theorem beatPulse_keeps : Keeps s s.beatPulse := by
  have pulsed := beatPulse_setBeat_keeps s
  unfold State.beatPulse
  split
  · exact .refl s
  · dsimp only
    split
    · exact (externalPulse_keeps _).after pulsed
    · refine .ite (fun _ => ?_) fun _ => pulsed
      exact (externalPulse_keeps _).after ((notifyBeat_keeps _ _).after (pulsed.trans (setBeat_keeps_of_same rfl rfl (.inr rfl))))

theorem reloadBeat_keeps : Keeps s s.reloadBeat := setBeat_keeps_of_same rfl rfl (.inr rfl)

theorem beatExpiry_keeps : Keeps s s.beatExpiry := by
  unfold State.beatExpiry
  split
  · exact (beatEvent_keeps _).after (reloadBeat_keeps s)
  · exact .ite (fun _ => (reloadBeat_keeps _).after (setBeat_keeps_of_same rfl rfl (.inl le_rfl))) fun _ =>
      (beatEvent_keeps _).after ((reloadBeat_keeps _).after ((notifyBeat_keeps _ _).after
        (setBeat_keeps_of_same rfl rfl (.inl (Nat.zero_le _)))))

theorem subdivisionExpiry_keeps : Keeps s s.subdivisionExpiry := by
  unfold State.subdivisionExpiry
  split
  · exact .refl s
  · exact (quarterBeat_keeps _).after (setBeat_keeps_of_same rfl rfl (.inr rfl))

theorem ownSetTempo_keeps (period : Int) : OwnerKeeps (ownSetTempo period) := fun _ s =>
  .answer (fun _ => .refl s) fun _ => setBeat_keeps fun ⟨_, _, _, _, few⟩ =>
    ⟨Nat.zero_le _, fun _ h => absurd h List.not_mem_nil, le_clamp _ _ _ (by decide), clamp_le _ _ _ (by decide), few⟩

theorem forceInternal_keeps : Keeps s s.forceInternal := by
  unfold State.forceInternal
  dsimp only
  split
  · exact setBeat_keeps_of_same rfl rfl (.inr rfl)
  · exact (notifyBeat_keeps _ _).after (setBeat_keeps_of_same rfl rfl (.inl (Nat.zero_le _)))

theorem withBeatSetting_keeps (v : BeatSetting) : Keeps s (s.withBeatSetting v) := by
  unfold State.withBeatSetting
  split
  · exact forceInternal_keeps s
  · exact setBeat_keeps_of_same rfl rfl (.inr rfl)
  · exact .refl s
  · exact .refl s

theorem ownSetBeatSource_keeps (setting : Option BeatSetting) : OwnerKeeps (ownSetBeatSource setting) := by
  intro _ s
  unfold ownSetBeatSource
  split
  · exact .refl s
  · exact withBeatSetting_keeps s _

/-! ## Timecode -/

theorem setTimecode_keeps (c : Timecode) : Keeps s (s.setTimecode c) := .setInputs _ id (·.2)

theorem timecodeValid_keeps (f : Nat) : Keeps s (s.timecodeValid f) := by
  refine (timecodeLayers_keeps _ f).after (.ite (fun _ => ?_) fun _ => ?_)
  · exact setTimecode_keeps s _
  · exact (notify_keeps _ _).after (setTimecode_keeps s _)

theorem withPartial_keeps (cs : List Byte) : Keeps s (s.withPartial cs) := setTimecode_keeps s _

theorem timecodeChar_keeps (c : Byte) : Keeps s (s.timecodeChar c) := by
  refine .ite (fun _ => withPartial_keeps s _) fun _ => .ite (fun _ => withPartial_keeps s _) fun _ => ?_
  split
  · exact (timecodeValid_keeps _ _).after (withPartial_keeps s _)
  · exact withPartial_keeps s _

theorem timecodeDiscard_keeps (cause : TimecodeFault) : Keeps s (s.timecodeDiscard cause) := by
  cases cause <;> exact withPartial_keeps s _

theorem lockExpiry_keeps : Keeps s s.lockExpiry :=
  .ite (fun _ => (notify_keeps _ _).after (setTimecode_keeps s _)) fun _ => .refl s

/-! ## Triggers -/

theorem setTrigger_keeps (n : Nat) (v : Trigger) : Keeps s (s.setTrigger n v) := .setInputs _ id (·.2)

theorem finish_layerAction_keeps {s u : State} {r : Option State} (l n : Nat) (a : Action) (hu : Keeps s u)
    (h : ∀ s', r = some s' → Keeps s s') : Keeps s ((layerAction l r).finish u n a) := by
  unfold layerAction
  split
  · exact (notify_keeps _ _).after (h _ rfl)
  · exact (notify_keeps _ _).after hu

theorem finish_doAction_keeps (n : Nat) (a : Action) : Keeps s ((s.doAction a).finish s n a) := by
  unfold State.doAction
  split
  · exact notify_keeps s _
  · unfold State.triggerGo
    split
    · exact notify_keeps s _
    · next taken =>
      refine finish_layerAction_keeps _ n _ (.refl s) fun s' e => ?_
      obtain rfl := Option.some.inj e
      exact (notify_keeps _ _).after (goTake_keeps taken)
  · exact finish_layerAction_keeps _ n _ (.refl s) fun _ => releaseLayer_keeps
  · exact finish_layerAction_keeps _ n _ (.refl s) fun _ => pauseLayer_keeps
  · exact finish_layerAction_keeps _ n _ (.refl s) fun _ => resumeLayer_keeps
  · refine finish_layerAction_keeps _ n _ (.refl s) fun s' e => ?_
    obtain rfl := Option.some.inj e
    exact clearLayer_keeps s _
  · exact (notify_keeps _ _).after (withMode_keeps s _)
  · exact (notify_keeps _ _).after (withMode_keeps s _)
  · exact (notify_keeps _ _).after (withMode_keeps s _)
  · exact (notify_keeps _ _).after (withMask_keeps s _)

theorem actOn_keeps (n : Nat) : Keeps s (s.actOn n) := by
  unfold State.actOn
  dsimp only
  split
  · exact setTrigger_keeps s _ _
  · exact (finish_doAction_keeps _ _ _).after (setTrigger_keeps s _ _)

theorem testFlag_keeps (n : Nat) : Keeps s (s.testFlag n) := .ite (fun _ => actOn_keeps s n) fun _ => .refl s

theorem triggerEdge_keeps (n : Nat) : Keeps s (s.triggerEdge n) :=
  .ite (fun _ => .refl s) fun _ => .ite (fun _ => .refl s) fun _ => .ite (fun _ => setTrigger_keeps s _ _) fun _ =>
    (testFlag_keeps _ n).after (setTrigger_keeps s _ _)

theorem ownSetTrigger_keeps (n : Nat) (action : Option ActionReq) (precedence : Int) :
    OwnerKeeps (ownSetTrigger n action precedence) := by
  intro _ s
  refine .answer (fun _ => .refl s) fun _ => ?_
  split
  · exact .refl s
  · exact .answer (fun _ => .refl s) fun _ => (testFlag_keeps _ _).after (setTrigger_keeps s _ _)

theorem countFlag_keeps (ns : List Nat) (r : State × Nat) : Keeps r.1 (ns.foldl countFlag r).1 := by
  induction ns generalizing r with
  | nil => exact .refl r.1
  | cons n ns ih => exact (testFlag_keeps r.1 n).trans (ih (countFlag r n))

theorem ownSetTriggerFloor_keeps (v : Int) : OwnerKeeps (ownSetTriggerFloor v) := by
  intro _ s
  unfold ownSetTriggerFloor
  dsimp only
  exact (countFlag_keeps triggerIds ({ s with inputs.floor := clamp 0 15 v }, 0)).after
    (.setInputs { s.inputs with floor := clamp 0 15 v } id fun _ => clamp_le 0 15 v (by decide))

theorem clearFlag_keeps (n : Nat) : Keeps s (s.clearFlag n) := setTrigger_keeps s _ _

theorem ownClearTrigger_keeps (line : Option Nat) : OwnerKeeps (ownClearTrigger line) := fun _ s =>
  .answer (fun _ => .refl s) fun _ => .foldl clearFlag_keeps _ s

/-! ## The show store -/

theorem summed_keeps (x : BitVec 32) : Keeps s (s.summed x) := .setStore _ fun _ h => .inl h

theorem images_idle {st : Store} {i : Image} (h : i ∈ Store.images { st with activity := .idle }) : i ∈ st.images := by
  unfold Store.images at h ⊢
  simp only [List.append_nil] at h
  exact List.mem_append_left _ h

theorem mem_images_of_image {st : Store} {i : Image} (h : st.image = some i) : i ∈ st.images := by
  simp [Store.images, h]

theorem storeIdle_keeps : Keeps s s.storeIdle := .setStore _ fun _ h => .inl (images_idle h)

theorem ownSave_keeps : OwnerKeeps ownSave := fun _ s =>
  .answer (fun _ => .refl s) fun _ => .setStore _ fun i h => .inr (.inr (by simpa [Store.images] using h))

theorem saveComplete_keeps : Keeps s s.saveComplete := by
  unfold State.saveComplete
  split
  · next captured e =>
    refine (answerDeferred_keeps _ _ _ _ _).after (.setStore _ fun i h => .inl ?_)
    obtain rfl : i = captured := by simpa [Store.images] using h
    simp [Store.images, e]
  · exact .refl s
  · exact .refl s

theorem ownLoad_keeps : OwnerKeeps ownLoad := fun _ s =>
  .answer (fun _ => .refl s) fun _ => .answer (fun _ => .refl s) fun _ => .answer (fun _ => .refl s) fun _ =>
    .setStore _ fun _ h => .inl (images_idle h)

/-! ## The replacement of the tables -/

theorem loadTriggers_keeps (i : Image) : Keeps s (s.loadTriggers i) := by
  unfold State.loadTriggers
  refine .foldl (fun _ _ => ?_) _ s
  exact setTrigger_keeps _ _ _

/-- R135: the loaded triggers change the show inputs alone. -/
@[simp] theorem loadTriggers_fields (i : Image) :
    (s.loadTriggers i).now = s.now ∧ (s.loadTriggers i).startUp = s.startUp ∧ (s.loadTriggers i).link = s.link ∧
    (s.loadTriggers i).store = s.store ∧ (s.loadTriggers i).patch = s.patch ∧ (s.loadTriggers i).cues = s.cues ∧
    (s.loadTriggers i).playback = s.playback ∧ (s.loadTriggers i).merge = s.merge ∧
    (s.loadTriggers i).limiter = s.limiter ∧ (s.loadTriggers i).zones = s.zones ∧
    (s.loadTriggers i).effects = s.effects ∧ (s.loadTriggers i).lines = s.lines ∧
    (s.loadTriggers i).supervision = s.supervision ∧ (s.loadTriggers i).pending = s.pending := by
  unfold State.loadTriggers
  generalize triggerIds = ns
  exact ⟨foldl_read State.now (by intros; rfl) s, foldl_read State.startUp (by intros; rfl) s,
    foldl_read State.link (by intros; rfl) s, foldl_read State.store (by intros; rfl) s,
    foldl_read State.patch (by intros; rfl) s, foldl_read State.cues (by intros; rfl) s,
    foldl_read State.playback (by intros; rfl) s, foldl_read State.merge (by intros; rfl) s,
    foldl_read State.limiter (by intros; rfl) s, foldl_read State.zones (by intros; rfl) s,
    foldl_read State.effects (by intros; rfl) s, foldl_read State.lines (by intros; rfl) s,
    foldl_read State.supervision (by intros; rfl) s, foldl_read State.pending (by intros; rfl) s⟩

/-- R178: the loaded settings of the layers change playback alone. -/
@[simp] theorem loadLayers_fields (i : Image) :
    (s.loadLayers i).now = s.now ∧ (s.loadLayers i).startUp = s.startUp ∧ (s.loadLayers i).link = s.link ∧
    (s.loadLayers i).store = s.store ∧ (s.loadLayers i).patch = s.patch ∧ (s.loadLayers i).cues = s.cues ∧
    (s.loadLayers i).merge = s.merge ∧ (s.loadLayers i).limiter = s.limiter ∧ (s.loadLayers i).zones = s.zones ∧
    (s.loadLayers i).effects = s.effects ∧ (s.loadLayers i).inputs = s.inputs ∧ (s.loadLayers i).lines = s.lines ∧
    (s.loadLayers i).supervision = s.supervision ∧ (s.loadLayers i).pending = s.pending := by
  unfold State.loadLayers
  generalize layerIds = ls
  exact ⟨foldl_read State.now (by intros; rfl) s, foldl_read State.startUp (by intros; rfl) s,
    foldl_read State.link (by intros; rfl) s, foldl_read State.store (by intros; rfl) s,
    foldl_read State.patch (by intros; rfl) s, foldl_read State.cues (by intros; rfl) s,
    foldl_read State.merge (by intros; rfl) s, foldl_read State.limiter (by intros; rfl) s,
    foldl_read State.zones (by intros; rfl) s, foldl_read State.effects (by intros; rfl) s,
    foldl_read State.inputs (by intros; rfl) s, foldl_read State.lines (by intros; rfl) s,
    foldl_read State.supervision (by intros; rfl) s, foldl_read State.pending (by intros; rfl) s⟩

theorem loadLayers_keeps (i : Image) : Keeps s (s.loadLayers i) := by
  unfold State.loadLayers
  refine .foldl (fun _ _ => ?_) _ s
  exact setLayer_keeps Iff.rfl

/-- The tables a LOAD brings, with the settings of the triggers and the layers. -/
def State.loadedTables (s : State) (i : Image) : State := ((s.withTables i).loadTriggers i).loadLayers i

@[simp] theorem loadedTables_patch (i : Image) : (s.loadedTables i).patch = ⟨i.personalities, i.heads, i.groups⟩ := by
  simp only [State.loadedTables, loadLayers_fields, loadTriggers_fields]
  rfl

@[simp] theorem loadedTables_store (i : Image) : (s.loadedTables i).store = s.store := by
  simp only [State.loadedTables, loadLayers_fields, loadTriggers_fields]
  rfl

theorem loadMotion_motion (before after : State) (h : Nat) :
    (State.loadMotion before after).motion h = if after.patched h = true then loadedMotion before after h else none := by
  show Table.get none (after.patchedHeads.foldl _ _) h = _
  rw [Table.get_foldl_put]
  simp only [mem_patchedHeads]
  rfl

theorem fresh_within {c : HeadPatch} {q : Personality} (pan : c.homePan ≤ q.panRange) (tilt : c.homeTilt ≤ q.tiltRange)
    (speed : Nat) : (Motion.fresh c.homePan c.homeTilt).pan.Within q.panRange speed
      ∧ (Motion.fresh c.homePan c.homeTilt).tilt.Within q.tiltRange speed :=
  ⟨⟨pan, Nat.zero_le _⟩, ⟨tilt, Nat.zero_le _⟩⟩

/-- R91: a head whose ranges a LOAD left was within them, and its velocities are cut to its new max speed. -/
theorem loadedMotion_within {before after : State} {h : Nat} {q : Personality} {x : Motion}
    (bounded : ∀ q', before.personalityOf h = some q' → HeadFits (before.headPatch h) (before.motion h) q')
    (hq : after.personalityOf h = some q) (pan : (after.headPatch h).homePan ≤ q.panRange)
    (tilt : (after.headPatch h).homeTilt ≤ q.tiltRange) (hx : loadedMotion before after h = some x) :
    x.pan.Within q.panRange (after.headPatch h).maxSpeed ∧ x.tilt.Within q.tiltRange (after.headPatch h).maxSpeed := by
  unfold loadedMotion at hx
  extract_lets c at hx
  split at hx
  · cases hx
  · split at hx
    · cases hx; exact fresh_within pan tilt _
    · split at hx
      · cases hx; exact fresh_within pan tilt _
      · next same =>
        obtain ⟨m, hm, rfl⟩ := Option.map_eq_some_iff.mp hx
        have ranges : (before.personalityOf h).map Personality.ranges = some q.ranges := by
          simp only [personalityChanged, Bool.or_eq_true, Bool.not_eq_true', decide_eq_false_iff_not, not_or, not_not] at same
          rw [same.2, hq]; rfl
        obtain ⟨q', hq', e⟩ := Option.map_eq_some_iff.mp ranges
        obtain ⟨panRange, tiltRange⟩ := Prod.mk.inj e
        obtain ⟨panOld, tiltOld⟩ := (bounded q' hq').motion m hm
        exact ⟨panRange ▸ cut_within _ panOld, tiltRange ▸ cut_within _ tiltOld⟩

/-- R91: the limiter's state of every head, given anew from the tables of `after`. -/
theorem loadMotion_keeps {s after : State} {i : Image} (hi : i ∈ s.store.images) (settings : Keeps (s.withTables i) after)
    (patch : after.patch = ⟨i.personalities, i.heads, i.groups⟩) (store : after.store = s.store) :
    Keeps s (State.loadMotion s after) := by
  refine ⟨settings.pending, settings.notices, settings.beat, settings.levels, settings.douse, settings.lines, settings.stack,
    settings.homing, fun bounded => ?_⟩
  obtain ⟨before, images⟩ := (motionBounded_iff s).mp bounded
  refine (motionBounded_iff _).mpr ⟨fun h q hq => ?_, fun j hj => images j (store ▸ hj)⟩
  replace hq : after.personalityOf h = some q := hq
  obtain ⟨p, hp, hpq⟩ := Option.bind_eq_some_iff.mp hq
  have homes : HomesInRange after.patch.personalities after.patch.heads := by
    rw [patch]; exact images i hi
  obtain ⟨pan, tilt⟩ := homes h p q hp hpq
  refine ⟨pan, tilt, fun x hx => ?_⟩
  rw [loadMotion_motion, if_pos (patched_of_personalityOf _ hq)] at hx
  exact loadedMotion_within (before h) hq pan tilt hx

theorem loadedTables_keeps {s : State} {i : Image} (hi : i ∈ s.store.images) :
    Keeps s (State.loadMotion s (s.loadedTables i)) :=
  loadMotion_keeps hi ((loadTriggers_keeps _ i).trans (loadLayers_keeps _ i)) (loadedTables_patch s i) (loadedTables_store s i)

theorem clearLine_keeps (l : Nat) : Keeps s (s.clearLine l) :=
  (abortEntries_keeps _ _).after (setLine_keeps_of_le (Nat.zero_le _) (Nat.zero_le _) rfl)

theorem abortEntry_lines (e : QueryEntry) : (s.abortEntry e).lines = s.lines := by
  unfold State.abortEntry
  split <;> rfl

theorem abortEntries_lines (es : List QueryEntry) : (s.abortEntries es).lines = s.lines :=
  foldl_read State.lines (fun u _ _ => abortEntry_lines u _) s

theorem abortEntry_store (e : QueryEntry) : (s.abortEntry e).store = s.store := by
  unfold State.abortEntry
  split <;> rfl

theorem abortEntries_store (es : List QueryEntry) : (s.abortEntries es).store = s.store :=
  foldl_read State.store (fun u _ _ => abortEntry_store u _) s

theorem line_of_lines {s u : State} (h : u.lines = s.lines) (l : Nat) : u.line l = s.line l := by
  rw [State.line, h]; rfl

/-- R151: a line at a LOAD before its settings. -/
def Line.cleared (y : Line) : Line :=
  { y with turn := y.turn.loaded, queue := [], wait := 0, auditCursor := none, snapshot := [] }

theorem clearLine_line (l k : Nat) : (s.clearLine l).line k = if k = l then (s.line l).cleared else s.line k := by
  rw [State.clearLine, line_of_lines (abortEntries_lines _ _), line_setLine]
  rfl

theorem clearLine_store (l : Nat) : (s.clearLine l).store = s.store := abortEntries_store _ _

theorem nodup_lineIds : lineIds.Nodup := List.nodup_range

/-- The loaded settings are applied to lines whose wait counter is 0. -/
theorem loadLines_keeps {s : State} (before : State) {i : Image} (hi : i ∈ s.store.images) (ls : List Nat)
    (idle : ∀ l ∈ ls, (s.line l).wait = 0) : Keeps s (ls.foldl (State.loadLine before i) s) := by
  induction ls generalizing s with
  | nil => exact .refl s
  | cons l ls ih =>
    have loaded : Keeps s (State.loadLine before i s l) := setLine_keeps fun bounded =>
      ⟨(bounded.1 l).1, by simp [Line.loaded, idle l List.mem_cons_self], bounded.2 i hi l⟩
    refine loaded.trans (ih hi fun k hk => ?_)
    rw [State.loadLine, line_setLine]
    split
    · next e => exact e ▸ idle k (List.mem_cons_of_mem l hk)
    · exact idle k (List.mem_cons_of_mem l hk)

theorem loadDecision_keeps (before : State) (l : Nat) : Keeps s (State.loadDecision before s l) :=
  .ite (fun _ => decideTurn_keeps s l) fun _ => .refl s

/-- R178: the lines as a LOAD finds them, its tables and supervision's state replaced. -/
def State.loadedRest (s : State) (i : Image) : State := (State.loadMotion s (s.loadedTables i)).resetSupervision

/-- R178: the lines of a LOAD are cleared, given their settings, and decide, one after another. -/
theorem loadImage_eq (i : Image) : s.loadImage i = lineIds.foldl (State.loadDecision s)
    (lineIds.foldl (State.loadLine s i) (lineIds.foldl State.clearLine (s.loadedRest i))) := rfl

@[simp] theorem loadMotion_store (before after : State) : (State.loadMotion before after).store = after.store := rfl

@[simp] theorem loadedRest_store (i : Image) : (s.loadedRest i).store = s.store := by
  simp [State.loadedRest]

/-- R151: what the clearing of the lines leaves of a line. -/
theorem clearLines_line {l : Nat} (hl : l ∈ lineIds) : (lineIds.foldl State.clearLine s).line l = (s.line l).cleared := by
  rw [foldl_update (f := State.clearLine) (read := State.line) (g := fun _ => Line.cleared) clearLine_line nodup_lineIds,
    if_pos hl]

theorem loadImage_keeps {s : State} {i : Image} (hi : i ∈ s.store.images) : Keeps s (s.loadImage i) := by
  have cleared : Keeps s (lineIds.foldl State.clearLine (s.loadedRest i)) :=
    (Keeps.foldl clearLine_keeps _ _).after ((resetSupervision_keeps _).after (loadedTables_keeps hi))
  have store : (lineIds.foldl State.clearLine (s.loadedRest i)).store = s.store :=
    (foldl_read State.store (fun u l _ => clearLine_store u l) _).trans (loadedRest_store s i)
  have held : i ∈ (lineIds.foldl State.clearLine (s.loadedRest i)).store.images := by rwa [store]
  rw [loadImage_eq]
  refine (Keeps.foldl (fun u l => loadDecision_keeps u s l) _ _).after
    ((loadLines_keeps s held lineIds fun l hl => ?_).after cleared)
  rw [clearLines_line _ hl]
  rfl

theorem replaceTables_keeps {s : State} (tag : Byte) {i : Image} (hi : s.store.image = some i) :
    Keeps s (s.replaceTables tag i) :=
  (answerDeferred_keeps _ _ _ _ _).after ((storeIdle_keeps s).trans (loadImage_keeps (mem_images_of_image hi)))

theorem loadFails_keeps (tag : Byte) : Keeps s (s.loadFails tag) :=
  (answerDeferred_keeps _ _ _ _ _).after (storeIdle_keeps s)

theorem replacementPoint_keeps (altered : Option (BitVec 32)) : Keeps s (s.replacementPoint altered) := by
  unfold State.replacementPoint
  split
  · next hi =>
    exact .ite (fun _ => (summed_keeps s _).trans (replaceTables_keeps _ hi)) fun _ =>
      (loadFails_keeps _ _).after (summed_keeps s _)
  · exact loadFails_keeps s _
  · exact .refl s
  · exact .refl s

/-! ## Start-up and the resets -/

theorem becomeReady_keeps (r : StartResult) (pages : Option Nat) : Keeps s (s.becomeReady r pages) :=
  (notify_keeps _ _).after (.setStartUp s _)

theorem startFromImage_keeps {s : State} {i : Image} (hi : s.store.image = some i) (altered : Option (BitVec 32)) :
    Keeps s (s.startFromImage i altered) :=
  .ite (fun _ => (becomeReady_keeps _ _ _).after ((summed_keeps s _).trans (loadImage_keeps (mem_images_of_image hi))))
    fun _ => (becomeReady_keeps _ _ _).after (summed_keeps s _)

theorem completeStartUp_keeps (altered : Option (BitVec 32)) : Keeps s (s.completeStartUp altered) := by
  refine .ite (fun _ => ?_) fun _ => .refl s
  split
  · exact becomeReady_keeps s _ _
  · exact becomeReady_keeps s _ _
  · next hi => exact startFromImage_keeps hi altered
  · exact becomeReady_keeps s _ _

/-- The reset values meet every invariant, whatever store the part had, once its images do. -/
theorem powerOnReset_keeps (d : Bool) : Keeps s (s.powerOnReset d) where
  pending := rfl
  notices := fun _ => Nat.zero_le _
  beat := fun _ => ⟨Nat.zero_le 4, fun _ h => absurd h List.not_mem_nil, show 200000 ≤ 500000 by decide,
    show 500000 ≤ 2000000 by decide, Nat.zero_le 1⟩
  levels := fun _ => ⟨Nat.zero_le _, Nat.zero_le _⟩
  douse := fun _ => id
  lines := fun bounded =>
    ⟨fun _ => ⟨Nat.zero_le _, Nat.zero_le _, show 1 ≤ 4 by decide⟩, fun i hi => bounded.2 i (images_idle hi)⟩
  stack := fun _ => ⟨List.nodup_nil, fun _ => iff_of_false List.not_mem_nil fun taken => taken rfl⟩
  homing := fun _ => ⟨Nat.zero_le 4, show 1 ≤ 4 by decide, show 4 ≤ 16 by decide⟩
  motion := fun bounded => (motionBounded_iff _).mpr
    ⟨fun _ _ hq => Option.noConfusion rfl (heq_of_eq hq), fun i hi => bounded.2.2 i (images_idle hi)⟩

theorem resetLine_keeps (l : Nat) : Keeps s (s.resetLine l) :=
  (abortEntries_keeps _ _).after (setLine_keeps_of_le (Nat.zero_le _) (Nat.zero_le _) rfl)

theorem resetDecision_keeps (before : State) (l : Nat) : Keeps s (State.resetDecision before s l) :=
  .ite (fun _ => decideTurn_keeps s l) fun _ => .refl s

theorem resetInputs_keeps : Keeps s s.resetInputs :=
  (Keeps.foldl clearFlag_keeps triggerIds s).trans
    (.setInputs _ (fun ⟨_, _, low, high, few⟩ => ⟨Nat.zero_le _, fun _ h => absurd h List.not_mem_nil, low, high, few⟩)
      fun _ => Nat.zero_le _)

theorem rigReset_keeps : Keeps s s.rigReset := by
  have owners : Keeps s (s.clearNotices.clearLayers.resetMerge.resetGenerators.resetInputs.withZoneWrite false) :=
    (withZoneWrite_keeps _ _).after ((resetInputs_keeps _).after ((resetGenerators_keeps _).after ((resetMerge_keeps _).after
      ((clearLayers_keeps _).after (clearNotices_keeps s)))))
  exact (Keeps.foldl (fun u l => resetDecision_keeps u s l) _ _).after ((resetSupervision_keeps _).after
    ((Keeps.foldl resetLine_keeps _ _).after owners))

theorem ownRigReset_keeps : OwnerKeeps ownRigReset := fun _ s => rigReset_keeps s

/-! ## Reads -/

/-- A read answers and leaves the state as it is, whatever it checks. -/
theorem ownReads_keep : OwnerKeeps ownIdentify ∧ OwnerKeeps ownReadRig ∧ (∀ h, OwnerKeeps (ownReadHead h))
    ∧ (∀ n start, OwnerKeeps (ownReadList n start)) ∧ (∀ l, OwnerKeeps (ownReadLayer l)) ∧ (∀ z, OwnerKeeps (ownReadZone z))
    ∧ (∀ n, OwnerKeeps (ownReadTrigger n)) ∧ ∀ l, OwnerKeeps (ownReadLine l) :=
  ⟨fun _ s => .refl s, fun _ s => .refl s, fun _ _ s => .answer (fun _ => .refl s) fun _ => .refl s,
    fun _ _ _ s => .answer (fun _ => .refl s) fun _ => .refl s, fun _ _ s => .answer (fun _ => .refl s) fun _ => .refl s,
    fun _ _ s => .answer (fun _ => .refl s) fun _ => .refl s, fun _ _ s => .answer (fun _ => .refl s) fun _ => .refl s,
    fun _ _ s => .answer (fun _ => .refl s) fun _ => .refl s⟩

theorem ownReadCue_keeps (n : Nat) (number : BitVec 16) (h : Nat) : OwnerKeeps (ownReadCue n number h) := by
  intro _ s
  refine .answer (fun _ => .refl s) fun _ => ?_
  split
  · exact .refl s
  · exact .refl s

/-! ## Request frames -/

theorem blinkOwner_keeps (b : List Byte) : OwnerKeeps (blinkOwner b) := by
  unfold blinkOwner
  split
  · exact ownSetBlinkGenerator_keeps _ _ _
  · exact ownSetBlinkAssignment_keeps _ _ _
  · exact fun _ s => .refl s

/-- A request kind whose every body that fits is handed to an owner that keeps what every command keeps. -/
def KindRow.Keeps (r : KindRow) : Prop := ∀ body own, r.parse body = some own → OwnerKeeps own

theorem fixedKind_keeps (code : Byte) (len : Nat) {own : List Byte → Owner} (h : ∀ b, OwnerKeeps (own b)) :
    (fixedKind code len own).Keeps := by
  intro body o e
  simp only [fixedKind] at e
  split at e
  · cases e; exact h body
  · cases e

theorem linkKinds_keep : ∀ r ∈ linkKinds, r.Keeps := by
  obtain ⟨identify, rig, head, _⟩ := ownReads_keep
  have personality : KindRow.Keeps ⟨0x10#8, parsePersonality⟩ := by
    intro body own e
    simp only [parsePersonality] at e
    split at e
    · cases e; exact ownDefinePersonality_keeps _
    · cases e
  simp only [linkKinds, List.forall_mem_cons]
  exact ⟨fixedKind_keeps _ _ fun _ => identify, fixedKind_keeps _ _ fun _ => rig, fixedKind_keeps _ _ fun _ => head _,
    fixedKind_keeps _ _ fun _ => ownRigReset_keeps, fixedKind_keeps _ _ fun _ => ownSave_keeps,
    fixedKind_keeps _ _ fun _ => ownLoad_keeps, personality, fixedKind_keeps _ _ fun _ => ownPatchHead_keeps _ _ _ _,
    fixedKind_keeps _ _ fun _ => ownUnpatchHead_keeps _, fixedKind_keeps _ _ fun _ => ownSetHead_keeps _,
    fixedKind_keeps _ _ fun _ => ownSetHeadLimits_keeps _ _ _, fixedKind_keeps _ _ fun _ => ownDefineGroup_keeps _ _, by simp⟩

theorem cueKinds_keep : ∀ r ∈ cueKinds, r.Keeps := by
  obtain ⟨_, _, _, list, _⟩ := ownReads_keep
  have store : KindRow.Keeps ⟨0x22#8, parseStoreCue⟩ := by
    intro body own e
    simp only [parseStoreCue] at e
    split at e
    · cases e
    · obtain ⟨r, _, rfl⟩ := Option.map_eq_some_iff.mp e; exact ownStoreCue_keeps _
  have append : KindRow.Keeps ⟨0x23#8, parseAppend⟩ := by
    intro body own e
    simp only [parseAppend] at e
    split at e
    · cases e
    · obtain ⟨r, _, rfl⟩ := Option.map_eq_some_iff.mp e; exact ownAppendEntries_keeps _ _ _ _
  simp only [cueKinds, List.forall_mem_cons]
  exact ⟨fixedKind_keeps _ _ fun _ => ownCreateList_keeps _, fixedKind_keeps _ _ fun _ => ownSetListLock_keeps _ _, store,
    append, fixedKind_keeps _ _ fun _ => ownDeleteCue_keeps _ _, fixedKind_keeps _ _ fun _ => ownDeleteList_keeps _,
    fixedKind_keeps _ _ fun _ => list _ _, fixedKind_keeps _ _ fun _ => ownReadCue_keeps _ _ _, by simp⟩

theorem layerKinds_keep : ∀ r ∈ layerKinds, r.Keeps := by
  obtain ⟨_, _, _, _, layer, _⟩ := ownReads_keep
  simp only [layerKinds, List.forall_mem_cons]
  exact ⟨fixedKind_keeps _ _ fun _ => ownGo_keeps _, fixedKind_keeps _ _ fun _ => ownGoto_keeps _ _,
    fixedKind_keeps _ _ fun _ => ownPause_keeps _, fixedKind_keeps _ _ fun _ => ownResume_keeps _,
    fixedKind_keeps _ _ fun _ => ownRelease_keeps _, fixedKind_keeps _ _ fun _ => ownKill_keeps _,
    fixedKind_keeps _ _ fun _ => ownLayerSetting_keeps _ _ _, fixedKind_keeps _ _ fun _ => ownLayerSetting_keeps _ _ _,
    fixedKind_keeps _ _ fun _ => ownIntensityMode_keeps _ _, fixedKind_keeps _ _ fun _ => ownLayerSetting_keeps _ _ _,
    fixedKind_keeps _ _ fun _ => ownLayerSetting_keeps _ _ _, fixedKind_keeps _ _ fun _ => ownLayerMode_keeps _ _,
    fixedKind_keeps _ _ fun _ => ownAssignList_keeps _ _, fixedKind_keeps _ _ fun _ => layer _, by simp⟩

theorem rigKinds_keep : ∀ r ∈ rigKinds, r.Keeps := by
  obtain ⟨_, _, _, _, _, zone, _⟩ := ownReads_keep
  simp only [rigKinds, List.forall_mem_cons]
  exact ⟨fixedKind_keeps _ _ fun _ => ownSetMask_keeps _, fixedKind_keeps _ _ fun _ => ownMode_keeps _,
    fixedKind_keeps _ _ fun _ => ownMode_keeps _, fixedKind_keeps _ _ fun _ => ownMode_keeps _,
    fixedKind_keeps _ _ fun _ => ownClearDouse_keeps, fixedKind_keeps _ _ fun _ => ownEnableZoneWrite_keeps,
    fixedKind_keeps _ _ fun _ => ownSetZone_keeps _, fixedKind_keeps _ _ fun _ => ownClearZone_keeps _,
    fixedKind_keeps _ _ fun _ => zone _, fixedKind_keeps _ _ fun _ => blinkOwner_keeps _, by simp⟩

theorem inputKinds_keep : ∀ r ∈ inputKinds, r.Keeps := by
  obtain ⟨_, _, _, _, _, _, trigger, line⟩ := ownReads_keep
  simp only [inputKinds, List.forall_mem_cons]
  exact ⟨fixedKind_keeps _ _ fun _ => ownSetTempo_keeps _, fixedKind_keeps _ _ fun _ => ownSetBeatSource_keeps _,
    fixedKind_keeps _ _ fun _ => ownSetTrigger_keeps _ _ _, fixedKind_keeps _ _ fun _ => ownSetTriggerFloor_keeps _,
    fixedKind_keeps _ _ fun _ => ownClearTrigger_keeps _, fixedKind_keeps _ _ fun _ => trigger _,
    fixedKind_keeps _ _ fun _ => ownConfigureLine_keeps _, fixedKind_keeps _ _ fun _ => ownQueryHead_keeps _ _,
    fixedKind_keeps _ _ fun _ => line _, fixedKind_keeps _ _ fun _ => ownRehomeHead_keeps _,
    fixedKind_keeps _ _ fun _ => ownClearCondition_keeps _, fixedKind_keeps _ _ fun _ => ownSetAudit_keeps _, by simp⟩

theorem requestKinds_keep : ∀ r ∈ requestKinds, r.Keeps := by
  simp only [requestKinds, List.forall_mem_append]
  exact ⟨⟨⟨⟨linkKinds_keep, cueKinds_keep⟩, layerKinds_keep⟩, rigKinds_keep⟩, inputKinds_keep⟩

theorem handleFrame_keeps (kind tag : Byte) (body : List Byte) : Keeps s (s.handleFrame kind tag body) := by
  refine .ite (fun _ => .refl s) fun _ => ?_
  split
  · exact enqueueReply_keeps s _
  · next r found =>
    split
    · exact enqueueReply_keeps s _
    · next own parsed => exact handle_keeps s (requestKinds_keep r (List.mem_of_find?_eq_some found) body own parsed) _ _ _

theorem linkByte_keeps (b : Byte) : Keeps s (s.linkByte b) := by
  unfold State.linkByte
  split
  · exact .ite (fun _ => withAssembler_keeps s _) fun _ => .refl s
  · split
    · exact withAssembler_keeps s _
    · exact withAssembler_keeps s _
    · exact (handleFrame_keeps _ _ _ _).after (withAssembler_keeps s _)

theorem discardFrame_keeps (cause : FrameFault) : Keeps s (s.discardFrame cause) := by
  cases cause <;> exact withAssembler_keeps s _

theorem endTransmit_keeps : Keeps s s.endTransmit := .setLink _ id

end Sys2Proof.Machine
end

section
/-! SUPPORT. Every command is carried out whole and keeps the waiting commands and the invariants; the obligations that say so. -/

namespace Sys2Proof.Machine

open Sys2Proof

variable (s : State)

theorem request_carried {own : Owner} (h : OwnerKeeps own) (t : Nat) (tag kind : Byte) :
    ∃ u, request t tag kind own s = .next u ∧ Keeps s u :=
  ⟨_, rfl, command_keeps s (fun u => handle_keeps u h tag kind false) t⟩

theorem command_carried {f : State → State} (h : ∀ u, Keeps u (f u)) (t : Nat) : ∃ u, command t f s = .next u ∧ Keeps s u :=
  ⟨_, rfl, command_keeps s h t⟩

/-- Every command answers a next state, and what it keeps is the same for all. -/
theorem exec_carried (c : Instr) : ∃ u, exec c s = .next u ∧ Keeps s u := by
  obtain ⟨identify, rig, head, list, layer, zone, trigger, line⟩ := ownReads_keep
  cases c with
  | powerOnReset d => exact ⟨_, rfl, powerOnReset_keeps s d⟩
  | startUpComplete t altered => exact command_carried s (fun u => completeStartUp_keeps u altered) t
  | requestFrame t bytes => exact command_carried s (fun u => .foldl linkByte_keeps bytes u) t
  | consoleByteGap t next => exact command_carried s (fun u => (linkByte_keeps _ next).after (withAssembler_keeps u _)) t
  | consoleFrameDiscard t cause => exact command_carried s (fun u => discardFrame_keeps u cause) t
  | transmitFrameEnd t => exact command_carried s endTransmit_keeps t
  | identify t tag => exact command_carried s (fun u => handle_keeps u identify tag _ true) t
  | readRig t tag => exact request_carried s rig t tag _
  | readHead t tag h => exact request_carried s (head h) t tag _
  | rigReset t tag => exact request_carried s ownRigReset_keeps t tag _
  | save t tag => exact request_carried s ownSave_keeps t tag _
  | saveComplete t => exact command_carried s saveComplete_keeps t
  | load t tag => exact request_carried s ownLoad_keeps t tag _
  | loadReplacementPoint t altered => exact command_carried s (fun u => replacementPoint_keeps u altered) t
  | definePersonality t tag p => exact request_carried s (ownDefinePersonality_keeps p) t tag _
  | patchHead t tag h p l b => exact request_carried s (ownPatchHead_keeps h p l b) t tag _
  | unpatchHead t tag h => exact request_carried s (ownUnpatchHead_keeps h) t tag _
  | setHead t tag h => exact request_carried s (ownSetHead_keeps h) t tag _
  | setHeadLimits t tag h v a => exact request_carried s (ownSetHeadLimits_keeps h v a) t tag _
  | defineGroup t tag g marks => exact request_carried s (ownDefineGroup_keeps g marks) t tag _
  | createList t tag n => exact request_carried s (ownCreateList_keeps n) t tag _
  | setListLock t tag n lock => exact request_carried s (ownSetListLock_keeps n lock) t tag _
  | storeCue t tag c => exact request_carried s (ownStoreCue_keeps c) t tag _
  | appendEntries t tag n k es stray => exact request_carried s (ownAppendEntries_keeps n k es stray) t tag _
  | deleteCue t tag n k => exact request_carried s (ownDeleteCue_keeps n k) t tag _
  | deleteList t tag n => exact request_carried s (ownDeleteList_keeps n) t tag _
  | readList t tag n start => exact request_carried s (list n start) t tag _
  | readCue t tag n k h => exact request_carried s (ownReadCue_keeps n k h) t tag _
  | go t tag l => exact request_carried s (ownGo_keeps l) t tag _
  | goto t tag l n => exact request_carried s (ownGoto_keeps l _) t tag _
  | pause t tag l => exact request_carried s (ownPause_keeps l) t tag _
  | resume t tag l => exact request_carried s (ownResume_keeps l) t tag _
  | release t tag l => exact request_carried s (ownRelease_keeps l) t tag _
  | kill t tag l => exact request_carried s (ownKill_keeps l) t tag _
  | setMaster t tag l v => exact request_carried s (ownLayerSetting_keeps l _ _) t tag _
  | setPrecedence t tag l v => exact request_carried s (ownLayerSetting_keeps l _ _) t tag _
  | setIntensityMode t tag l m => exact request_carried s (ownIntensityMode_keeps l m) t tag _
  | setReleaseTime t tag l v => exact request_carried s (ownLayerSetting_keeps l _ _) t tag _
  | setChaseBeats t tag l v => exact request_carried s (ownLayerSetting_keeps l _ _) t tag _
  | setLayerMode t tag l m => exact request_carried s (ownLayerMode_keeps l m) t tag _
  | assignList t tag l n => exact request_carried s (ownAssignList_keeps l n) t tag _
  | readLayer t tag l => exact request_carried s (layer l) t tag _
  | setMask t tag v => exact request_carried s (ownSetMask_keeps v) t tag _
  | hold t tag => exact request_carried s (ownMode_keeps _) t tag _
  | park t tag => exact request_carried s (ownMode_keeps _) t tag _
  | run t tag => exact request_carried s (ownMode_keeps _) t tag _
  | clearDouse t tag => exact request_carried s ownClearDouse_keeps t tag _
  | enableZoneWrite t tag => exact request_carried s ownEnableZoneWrite_keeps t tag _
  | setZone t tag z => exact request_carried s (ownSetZone_keeps z) t tag _
  | clearZone t tag z => exact request_carried s (ownClearZone_keeps z) t tag _
  | readZone t tag z => exact request_carried s (zone z) t tag _
  | setBlinkGenerator t tag g rate mark => exact request_carried s (ownSetBlinkGenerator_keeps g rate mark) t tag _
  | setBlinkAssignment t tag target g mask => exact request_carried s (ownSetBlinkAssignment_keeps target g mask) t tag _
  | setTempo t tag v => exact request_carried s (ownSetTempo_keeps v) t tag _
  | setBeatSource t tag v => exact request_carried s (ownSetBeatSource_keeps v) t tag _
  | setTrigger t tag n a p => exact request_carried s (ownSetTrigger_keeps n a p) t tag _
  | setTriggerFloor t tag v => exact request_carried s (ownSetTriggerFloor_keeps v) t tag _
  | clearTrigger t tag n => exact request_carried s (ownClearTrigger_keeps n) t tag _
  | readTrigger t tag n => exact request_carried s (trigger n) t tag _
  | configureLine t tag c => exact request_carried s (ownConfigureLine_keeps c) t tag _
  | queryHead t tag h p => exact request_carried s (ownQueryHead_keeps h p) t tag _
  | readLine t tag l => exact request_carried s (line l) t tag _
  | rehomeHead t tag h => exact request_carried s (ownRehomeHead_keeps h) t tag _
  | clearCondition t tag h => exact request_carried s (ownClearCondition_keeps h) t tag _
  | setAudit t tag v => exact request_carried s (ownSetAudit_keeps v) t tag _
  | layerStep t => exact command_carried s layerStep_keeps t
  | followExpiry t l => exact command_carried s (fun u => followExpiry_keeps u l) t
  | chaseCountExpiry t l => exact command_carried s (fun u => chaseExpiry_keeps u l) t
  | blinkToggle t g => exact command_carried s (fun u => blinkToggle_keeps u g) t
  | limiterStep t => exact command_carried s limiterStep_keeps t
  | douseAssert t => exact command_carried s assertDouse_keeps t
  | douseDeassert t => exact command_carried s deassertDouse_keeps t
  | beatPulse t => exact command_carried s beatPulse_keeps t
  | internalBeatExpiry t => exact command_carried s beatExpiry_keeps t
  | subdivisionExpiry t => exact command_carried s subdivisionExpiry_keeps t
  | timecodeMessage t chars => exact command_carried s (fun u => .foldl timecodeChar_keeps chars u) t
  | timecodeMessageDiscard t cause => exact command_carried s (fun u => timecodeDiscard_keeps u cause) t
  | timecodeLockExpiry t => exact command_carried s lockExpiry_keeps t
  | triggerEdge t n => exact command_carried s (fun u => triggerEdge_keeps u n) t
  | refreshTimerExpiry t l => exact command_carried s (fun u => refreshExpiry_keeps u l) t
  | refreshFrameEnd t l => exact command_carried s (fun u => refreshEnd_keeps u l) t
  | queryFrameEnd t l => exact command_carried s (fun u => queryEnd_keeps u l) t
  | replyFrameReceived t l chars => exact command_carried s (fun u => endExchange_keeps u l _) t
  | replyStartTimeout t l => exact command_carried s (fun u => endExchange_keeps u l _) t
  | replyShortTimeout t l => exact command_carried s (fun u => endExchange_keeps u l _) t
  | auditTimerExpiry t l => exact command_carried s (fun u => auditExpiry_keeps u l) t
  | supervisionPoll t => exact command_carried s poll_keeps t
  | homingDeadlineExpiry t h => exact command_carried s (fun u => homingExpiry_keeps u h) t

/-- A step takes one of the waiting commands, and keeps what every command keeps. -/
theorem step_keeps {s u : State} (h : step s = .next u) : ∃ rest, Keeps (s.withPending rest) u := by
  unfold step at h
  split at h
  · cases h; exact ⟨s.pending, .refl s⟩
  · next c cs _ =>
    obtain ⟨v, carried, kept⟩ := exec_carried (s.withPending cs) c
    obtain rfl := Host.Outcome.next.inj (carried.symm.trans h)
    exact ⟨cs, kept⟩

/-- Settles O1: the two branches of `step`. -/
theorem stepRunsFrontCommand : Obligations.StepRunsFrontCommand := by
  refine ⟨fun s c rest waiting => ?_, fun s idle => ?_⟩
  · rw [step, waiting]; rfl
  · rw [step, idle]

/-- Settles O2, by `exec_carried`, command by command. -/
theorem everyCommandCompletesKeepingQueue : Obligations.EveryCommandCompletesKeepingQueue := fun c s =>
  let ⟨u, carried, kept⟩ := exec_carried s c
  ⟨u, carried, kept.pending⟩

/-- Settles O3: four of the invariants that every step keeps. -/
theorem boundedRegistersStayBounded : Obligations.BoundedRegistersStayBounded :=
  ⟨fun _ _ bounded h => let ⟨_, kept⟩ := step_keeps h; kept.notices bounded,
    fun _ _ bounded h => let ⟨_, kept⟩ := step_keeps h; kept.beat bounded,
    fun _ _ bounded h => let ⟨_, kept⟩ := step_keeps h; kept.levels bounded,
    fun _ _ held h => let ⟨_, kept⟩ := step_keeps h; kept.douse held⟩

/-- Settles O4: what is added to a line's queue finds room in it (`addQuery_keeps`), a refresh that goes ahead finds the wait counter
below its threshold (`grant_ahead`), and a LOAD's settings come from an image that lets a query wait (`loadLines_keeps`). -/
theorem lineQueuesStayBounded : Obligations.LineQueuesStayBounded := fun _ _ bounded h =>
  let ⟨_, kept⟩ := step_keeps h
  kept.lines bounded

/-- Settles O5: a layer that leaves IDLE goes on the take stack with it (`toTop_keeps`), one that becomes IDLE leaves it
(`clearLayer_keeps`). -/
theorem takeStackHoldsTakenLayers : Obligations.TakeStackHoldsTakenLayers := fun _ _ holds h =>
  let ⟨_, kept⟩ := step_keeps h
  kept.stack holds

/-- Settles O6: the dispatch counts a homing only below the limit (`dispatchHead_keeps`). -/
theorem homingCountStaysWithinLimit : Obligations.HomingCountStaysWithinLimit := fun _ _ bounded h =>
  let ⟨_, kept⟩ := step_keeps h
  kept.homing bounded

/-- Settles O7: an axis stays within its bounds in a limiter step (`stepAxis_within`), a re-patch (`rebase_within`) and a LOAD
(`loadedMotion_within`). -/
theorem positionsStayWithinRange : Obligations.PositionsStayWithinRange := fun _ _ bounded h =>
  let ⟨_, kept⟩ := step_keeps h
  kept.motion bounded

end Sys2Proof.Machine
end

section
/-! SUPPORT. The console link: what the assembler makes of the bytes of a frame, what the link's checks make of a request frame,
and the frames that are sent. -/

namespace Sys2Proof.Machine

open Sys2Proof

variable (s : State)

/-! ## Numbers of a body -/

theorem ofBytes_pair (a b : Byte) : ofBytes [a, b] = a.toNat * 256 + b.toNat := by simp [ofBytes]

theorem ofBytes_bytes16 {n : Nat} (h : n < 65536) : ofBytes (bytes16 n) = n := by
  rw [bytes16, ofBytes_pair, BitVec.toNat_ofNat, BitVec.toNat_ofNat]
  omega

theorem crc_lt (l : List Byte) : (crc l).toNat < 65536 := (crc l).isLt

/-! ## The receive assembler -/

/-- R167: the bytes after the sync byte, of a frame that carries the check `check`. -/
def wireBytes (kind tag : Byte) (body check : List Byte) : List Byte := frameCore kind tag body ++ check

theorem wireBytes_eq (kind tag : Byte) (body check : List Byte) : wireBytes kind tag body check =
    BitVec.ofNat 8 (body.length / 256) :: BitVec.ofNat 8 body.length :: kind :: tag :: (body ++ check) := by
  simp [wireBytes, frameCore, bytes16]

theorem length_wireBytes (kind tag : Byte) (body check : List Byte) :
    (wireBytes kind tag body check).length = body.length + 4 + check.length := by
  simp [wireBytes_eq]; omega

/-- R166: the length field of a frame, once it is in. -/
theorem fieldAt_length {kind tag : Byte} {body check : List Byte} {k : Nat} (h : body.length ≤ 1024) (two : 2 ≤ k) :
    fieldAt ((wireBytes kind tag body check).take k) 0 2 = body.length := by
  obtain ⟨k, rfl⟩ : ∃ j, k = j + 2 := ⟨k - 2, by omega⟩
  rw [wireBytes_eq]
  exact ofBytes_bytes16 (by omega)

/-- R167: a frame that is not whole yet is waited for. -/
theorem assemble_take {kind tag : Byte} {body check : List Byte} {k : Nat} (h : body.length ≤ 1024) (two : check.length = 2)
    (part : k < body.length + 6) : assemble ((wireBytes kind tag body check).take k) = .more := by
  have length : ((wireBytes kind tag body check).take k).length = k := by
    rw [List.length_take, length_wireBytes]; omega
  unfold assemble
  rw [length]
  split
  · rfl
  · rw [fieldAt_length h (by omega)]
    dsimp only
    rw [if_neg (show ¬ Config.maxBody < body.length from Nat.not_lt.mpr h), if_pos part]

/-- R166, R167: a whole frame is handed on when its check matches, and discarded otherwise. -/
theorem assemble_whole {kind tag : Byte} {body check : List Byte} (h : body.length ≤ 1024) (two : check.length = 2) :
    assemble (wireBytes kind tag body check) =
      if (crc (frameCore kind tag body)).toNat = ofBytes check then .frame kind tag body else .discard := by
  have length : (wireBytes kind tag body check).length = body.length + 6 := by rw [length_wireBytes, two]
  have size : fieldAt (wireBytes kind tag body check) 0 2 = body.length := by
    rw [← List.take_length (l := wireBytes kind tag body check)]
    exact fieldAt_length h (by omega)
  have core : (wireBytes kind tag body check).take (body.length + 4) = frameCore kind tag body := by
    rw [wireBytes, List.take_left' (by simp [frameCore, bytes16])]
  have checked : fieldAt (wireBytes kind tag body check) (body.length + 4) 2 = ofBytes check := by
    rw [fieldAt, wireBytes, List.drop_left' (by simp [frameCore, bytes16]), ← two, List.take_length]
  have payload : (((wireBytes kind tag body check).drop 4).take body.length) = body := by
    rw [wireBytes_eq]; simp
  unfold assemble
  rw [if_neg (by omega), size]
  dsimp only
  rw [if_neg (show ¬ Config.maxBody < body.length from Nat.not_lt.mpr h), if_neg (by omega), core, checked, payload, wireBytes_eq]
  rfl

theorem withAssembler_self {s : State} {a : Assembler} (h : s.link.assembler = a) : s.withAssembler a = s := by
  subst h; rfl

/-- R167: bytes that leave the frame unfinished are gathered. -/
theorem linkBytes_gather (gathered bytes : List Byte)
    (part : ∀ k, k < bytes.length → assemble (gathered ++ bytes.take (k + 1)) = .more) :
    bytes.foldl State.linkByte (s.withAssembler (.assembling gathered)) = s.withAssembler (.assembling (gathered ++ bytes)) := by
  induction bytes generalizing gathered with
  | nil => simp
  | cons b bytes ih =>
    have first : (s.withAssembler (.assembling gathered)).linkByte b = s.withAssembler (.assembling (gathered ++ [b])) := by
      have more := part 0 (by simp)
      simp only [State.linkByte, State.withAssembler]
      rw [show gathered ++ [b] = gathered ++ (b :: bytes).take (0 + 1) from rfl, more]
    rw [List.foldl_cons, first, ih (gathered ++ [b]) fun k hk => ?_, List.append_assoc, List.singleton_append]
    have := part (k + 1) (by simpa using hk)
    simpa using this

theorem linkByte_assembling (gathered : List Byte) (b : Byte) : (s.withAssembler (.assembling gathered)).linkByte b =
    match assemble (gathered ++ [b]) with
    | .more => s.withAssembler (.assembling (gathered ++ [b]))
    | .discard => s.withAssembler .hunting
    | .frame kind tag body => (s.withAssembler .hunting).handleFrame kind tag body := by
  simp only [State.linkByte, State.withAssembler] <;> rfl

/-- R166, R167: the bytes of a frame with some check, received while HUNTING. -/
theorem linkBytes_frame {s : State} (hunting : s.link.assembler = .hunting) (kind tag high low : Byte) {body : List Byte}
    (h : body.length ≤ 1024) : (syncByte :: wireBytes kind tag body [high, low]).foldl State.linkByte s =
      if (crc (frameCore kind tag body)).toNat = ofBytes [high, low] then s.handleFrame kind tag body else s := by
  have begun : s.linkByte syncByte = s.withAssembler (.assembling []) := by
    simp only [State.linkByte, hunting, if_true]
  have whole : wireBytes kind tag body [high, low] = (frameCore kind tag body ++ [high]) ++ [low] := by simp [wireBytes]
  have size : (frameCore kind tag body ++ [high]).length = body.length + 5 := by simp [frameCore, bytes16]
  have gather := linkBytes_gather s [] (frameCore kind tag body ++ [high]) fun k hk => by
    have part : (wireBytes kind tag body [high, low]).take (k + 1) = (frameCore kind tag body ++ [high]).take (k + 1) := by
      rw [whole, List.take_append_of_le_length (l₁ := frameCore kind tag body ++ [high]) (by omega)]
    rw [List.nil_append, ← part]
    exact assemble_take h rfl (by omega)
  rw [List.foldl_cons, begun, whole, List.foldl_append, gather, List.foldl_cons, List.foldl_nil, linkByte_assembling,
    List.nil_append, ← whole, assemble_whole h rfl]
  split_ifs
  · simp only [withAssembler_self hunting]
  · simp only [withAssembler_self hunting]

theorem frameBytes_eq (kind tag : Byte) (body : List Byte) : frameBytes kind tag body =
    syncByte :: wireBytes kind tag body (bytes16 (crc (frameCore kind tag body)).toNat) := rfl

/-- R166, R167: the bytes of a whole frame, received while HUNTING, are handed on as that frame. -/
theorem exec_requestFrame {s : State} (t : Nat) (kind tag : Byte) {body : List Byte} (h : body.length ≤ 1024)
    (hunting : s.link.assembler = .hunting) : exec (.requestFrame t (frameBytes kind tag body)) s =
      .next ((s.advance t).handleFrame kind tag body).startTransmit := by
  show Host.Outcome.next ((frameBytes kind tag body).foldl State.linkByte (s.advance t)).startTransmit = _
  rw [frameBytes_eq, bytes16, linkBytes_frame (s := s.advance t) hunting kind tag _ _ h, if_pos]
  exact (ofBytes_bytes16 (crc_lt _)).symm

/-- Settles O8: a whole frame byte by byte (`linkBytes_frame`), with its own check or another; a gap and the discards. -/
theorem framesAreHandedOnOrDiscarded : Obligations.FramesAreHandedOnOrDiscarded := by
  refine ⟨fun t kind tag body s h hunting => exec_requestFrame t kind tag h hunting,
    fun t kind tag high low body s h hunting differs => ?_, fun t next cause s => ⟨?_, ?_⟩⟩
  · show Host.Outcome.next ((syncByte :: wireBytes kind tag body [high, low]).foldl State.linkByte (s.advance t)).startTransmit = _
    rw [linkBytes_frame (s := s.advance t) hunting kind tag high low h, if_neg]
    rw [ofBytes_pair]
    exact differs.symm
  · show Host.Outcome.next (State.startTransmit (if next = syncByte then _ else _)) = _
    rw [apply_ite (s.advance t).withAssembler]
    rfl
  · cases cause <;> rfl

/-! ## The checks of the link -/

/-- R169, checks 3 to 5: a frame of a known kind whose body fits. -/
theorem handleFrame_of_parse {s : State} {kind tag : Byte} {body : List Byte} {r : KindRow} {own : Owner}
    (known : requestKinds.find? (fun r => r.code == kind) = some r) (fits : r.parse body = some own) :
    s.handleFrame kind tag body = s.handle tag kind (kind == 0x01#8) own := by
  unfold State.handleFrame State.handle
  rw [known]
  simp only [fits]
  split_ifs <;> rfl

/-- R169, check 4: only IDENTIFY passes while STARTING. -/
theorem handle_starting {s : State} {tag kind : Byte} (own : Owner) (room : s.immediateHeld < 32) (starting : s.startUp = .starting) :
    s.handle tag kind false own = s.enqueueReply ⟨kind, tag, .starting, .bare, true⟩ := by
  unfold State.handle
  rw [if_neg (show ¬ Config.immediateReplies ≤ _ from Nat.not_le.mpr room), if_pos ⟨starting, Bool.false_ne_true⟩]

/-- R169, check 5. -/
theorem handle_tagBusy {s : State} {tag kind : Byte} {always : Bool} (own : Owner) (room : s.immediateHeld < 32)
    (started : s.startUp ≠ .starting ∨ always = true) (busy : tag ∈ s.link.inFlight) :
    s.handle tag kind always own = s.enqueueReply ⟨kind, tag, .tagBusy, .bare, true⟩ := by
  unfold State.handle
  rw [if_neg (show ¬ Config.immediateReplies ≤ _ from Nat.not_le.mpr room), if_neg (by tauto), if_pos busy]

/-- R169: a request that passes every check. -/
theorem handle_serves {s : State} {tag kind : Byte} {always : Bool} (own : Owner) (room : s.immediateHeld < 32)
    (started : s.startUp ≠ .starting ∨ always = true) (free : tag ∉ s.link.inFlight) :
    s.handle tag kind always own = s.serve tag kind own := by
  unfold State.handle
  rw [if_neg (show ¬ Config.immediateReplies ≤ _ from Nat.not_le.mpr room), if_neg (by tauto), if_neg free]

/-- Settles O9, check by check. -/
theorem linkChecksSettleRequests : Obligations.LinkChecksSettleRequests := by
  intro t kind tag body s h hunting
  rw [exec_requestFrame t kind tag h hunting]
  refine ⟨fun full => ?_, fun room unknown => ?_, fun r room known => ⟨fun unfit => ?_, fun own fits => ?_⟩⟩
  · rw [State.handleFrame, if_pos (show Config.immediateReplies ≤ (s.advance t).immediateHeld from full)]
  · rw [State.handleFrame, if_neg (show ¬ Config.immediateReplies ≤ (s.advance t).immediateHeld from Nat.not_le.mpr room), unknown]
    rfl
  · rw [State.handleFrame, if_neg (show ¬ Config.immediateReplies ≤ (s.advance t).immediateHeld from Nat.not_le.mpr room), known]
    simp only [unfit]
    rfl
  · rw [handleFrame_of_parse known fits]
    refine ⟨fun starting other => ?_, fun started busy => ?_, fun started free => ?_⟩
    · rw [beq_false_of_ne other, handle_starting (s := s.advance t) own room starting]
      rfl
    · rw [handle_tagBusy (s := s.advance t) own room (started.imp_right (by simp)) busy]
      rfl
    · rw [handle_serves (s := s.advance t) own room (started.imp_right (by simp)) free]

/-! ## Frames that do what their rows do -/

theorem exec_frame {s : State} {t : Nat} {kind tag : Byte} {body : List Byte} {r : KindRow} {own : Owner}
    (hunting : s.link.assembler = .hunting) (h : body.length ≤ 1024) (other : kind ≠ 0x01#8)
    (known : requestKinds.find? (fun r => r.code == kind) = some r) (fits : r.parse body = some own) :
    exec (.requestFrame t (frameBytes kind tag body)) s = request t tag kind own s := by
  rw [exec_requestFrame t kind tag h hunting, handleFrame_of_parse known fits, beq_false_of_ne other]
  rfl

theorem toNat_append (b c : Byte) : (b ++ c).toNat = b.toNat * 256 + c.toNat := by
  rw [BitVec.toNat_append, Nat.shiftLeft_eq, Nat.mul_comm, Nat.two_pow_add_eq_or_of_lt c.isLt, Nat.mul_comm]

theorem ofNat_ofBytes_pair (b c : Byte) : BitVec.ofNat 16 (ofBytes [b, c]) = b ++ c := by
  rw [ofBytes_pair, ← toNat_append, BitVec.ofNat_toNat, BitVec.setWidth_eq]

/-- R168: a body of a fixed-length kind fits when it has that length. -/
theorem fixedKind_fits (code : Byte) (len : Nat) (own : List Byte → Owner) (body : List Byte) :
    ((fixedKind code len own).parse body).isSome = true ↔ body.length = len := by
  simp [fixedKind]

theorem parsePersonality_fits (body : List Byte) : (parsePersonality body).isSome = true ↔
    27 ≤ body.length ∧ body.length = 27 + 5 * (byteAt body 26).toNat := by
  unfold parsePersonality
  split <;> simp_all [numAt]

theorem parseStoreCue_fits (body : List Byte) : (parseStoreCue body).isSome = true ↔
    30 ≤ body.length ∧ (parseEntries (fieldAt body 28 2) (body.drop 30)).isSome = true := by
  unfold parseStoreCue
  split
  · simp; omega
  · simp; omega

theorem parseAppend_fits (body : List Byte) : (parseAppend body).isSome = true ↔
    5 ≤ body.length ∧ (parseEntries (fieldAt body 3 2) (body.drop 5)).isSome = true := by
  unfold parseAppend
  split
  · simp; omega
  · simp; omega

/-- Settles O10: each kind is found in the list of kinds, and its body's numbers are those of the row (`exec_frame`). -/
theorem framesOfThirteenKindsRunTheirRows : Obligations.FramesOfThirteenKindsRunTheirRows := by
  refine ⟨fun t tag a b c d s hunting => ?_, fun p hp => ?_, ⟨_, rfl, parsePersonality_fits⟩, ⟨_, rfl, parseStoreCue_fits⟩,
    ⟨_, rfl, parseAppend_fits⟩⟩
  · have frame {kind : Byte} {body : List Byte} {r : KindRow} {own : Owner} := exec_frame (t := t) (tag := tag) (kind := kind)
      (body := body) (r := r) (own := own) hunting
    refine ⟨?_, ?_, frame (by simp) (by decide) rfl rfl, frame (by simp) (by decide) rfl rfl, frame (by simp) (by decide) rfl rfl,
      ?_, ?_, ?_, ?_, ?_, ?_, frame (by simp) (by decide) rfl rfl, ?_⟩
    · rw [exec_requestFrame t _ tag (by simp) hunting, handleFrame_of_parse rfl rfl]
      rfl
    · rw [frame (by simp) (by decide) rfl rfl, ← ofBytes_pair]
      rfl
    · rw [frame (by simp) (by decide) rfl rfl, ← ofBytes_pair]
      rfl
    · rw [frame (by simp) (by decide) rfl rfl]
      rfl
    · rw [frame (by simp) (by decide) rfl rfl]
      show request t tag _ (ownGoto a.toNat (ofBytes [b, c])) s = request t tag _ (ownGoto a.toNat (b ++ c).toNat) s
      rw [ofBytes_pair, toNat_append]
    · rw [frame (by simp) (by decide) rfl rfl]
      rfl
    · rw [frame (by simp) (by decide) rfl rfl]
      show request t tag _ (ownMaster a.toNat (BitVec.ofNat 16 (ofBytes [b, c]))) s = request t tag _ (ownMaster a.toNat (b ++ c)) s
      rw [ofNat_ofBytes_pair]
    · rw [frame (by simp) (by decide) rfl rfl]
      show request t tag _ (ownSetMask (ofBytes [a] : Nat)) s = request t tag _ (ownSetMask a.toNat) s
      simp [ofBytes]
    · rw [frame (by simp) (by decide) rfl rfl]
      show request t tag _ (ownSetHeadLimits (ofBytes [0#8, a]) (ofBytes [b, c] : Nat) (ofBytes [0#8, d] : Nat)) s
        = request t tag _ (ownSetHeadLimits a.toNat ((b.toNat * 256 + c.toNat : Nat) : Int) (d.toNat : Int)) s
      simp [ofBytes]
  · fin_cases hp <;> exact ⟨_, rfl, fixedKind_fits _ _ _⟩

/-! ## The frames that are sent -/

theorem exec_transmitFrameEnd (t : Nat) :
    exec (.transmitFrameEnd t) s = .next ({ s.advance t with link := { s.link with sending := none } } : State).startTransmit := rfl

theorem startTransmit_reply {s : State} {r : Reply} {rs : List Reply} (free : s.link.sending = none) (h : s.link.replies = r :: rs) :
    s.startTransmit = { s with link := { s.link with sending := some (.reply r), replies := rs } } := by
  unfold State.startTransmit
  rw [free, h]

theorem startTransmit_notice {s : State} {n : Notice} {ns : List Notice} (free : s.link.sending = none) (none : s.link.replies = [])
    (h : s.link.notices = n :: ns) :
    s.startTransmit = { s with link := { s.link with sending := some (.notice n s.link.lost), notices := ns, lost := false } } := by
  unfold State.startTransmit
  rw [free, none, h]

theorem startTransmit_empty {s : State} (replies : s.link.replies = []) (notices : s.link.notices = []) : s.startTransmit = s := by
  unfold State.startTransmit
  rw [replies, notices]
  split <;> simp_all

/-- R166: what the receive assembler takes of a sent frame, its sync byte gone. -/
theorem assemble_frame (o : Outgoing) (h : o.body.length ≤ 1024) : assemble (o.frame.drop 1) = .frame o.head.1 o.head.2.1 o.body := by
  show assemble (wireBytes o.head.1 o.head.2.1 o.body (bytes16 (crc (frameCore o.head.1 o.head.2.1 o.body)).toNat)) = _
  rw [assemble_whole h rfl, if_pos (ofBytes_bytes16 (crc_lt _)).symm]

theorem kindCode_range (n : Notice) : 0xE0 ≤ n.kindCode.toNat ∧ n.kindCode.toNat ≤ 0xE8 := by
  cases n <;> simp [Notice.kindCode]

/-- R166: a number is sent high byte first. -/
theorem ofBytes_toBytes (w n : Nat) : ofBytes (toBytes w n) = n % 256 ^ w := by
  induction w generalizing n with
  | zero => simp [toBytes, ofBytes, Nat.mod_one]
  | succ w ih =>
    have split : n % 256 ^ (w + 1) = n % 256 + 256 * (n / 256 % 256 ^ w) := by rw [Nat.pow_succ', Nat.mod_mul]
    rw [toBytes, ofBytes_append_one, ih, BitVec.toNat_ofNat, split]
    omega

/-- R166: a number with sign is sent in two's complement. -/
theorem ofBytes_signedBytes (w : Nat) {v : Int} (low : -(256 ^ w : Int) ≤ v) (high : v < 256 ^ w) :
    (ofBytes (signedBytes w v) : Int) = if v < 0 then v + 256 ^ w else v := by
  have pos : (0 : Int) < 256 ^ w := by positivity
  have reduced : ((v % 256 ^ w).toNat : Int) = v % 256 ^ w := Int.toNat_of_nonneg (Int.emod_nonneg _ pos.ne')
  rw [signedBytes, ofBytes_toBytes, Int.natCast_emod, reduced, Nat.cast_pow, Nat.cast_ofNat, Int.emod_emod]
  split
  · rw [← Int.add_emod_right, Int.emod_eq_of_lt (by omega) (by omega)]
  · rw [Int.emod_eq_of_lt (by omega) high]

/-- The bytes a field takes where a rule prints its width. -/
def Field.printedWidth : Field → Option Nat
  | .sized w _ => some w
  | .sizedOrAbsent w _ => some w
  | _ => none

theorem length_toBytes_of_printed {f : Field} {w : Nat} (h : f.printedWidth = some w) (kind : Byte) (place : Nat) :
    (f.toBytes kind place).length = w := by
  cases f with
  | sized => cases h; exact length_toBytes _ _
  | sizedOrAbsent => cases h; exact length_toBytes _ _
  | _ => cases h

/-- Fields of printed widths take the sum of them, wherever they stand. -/
theorem length_fieldBytes {fs : List Field} {ws : List Nat} (h : fs.map Field.printedWidth = ws.map some) (kind : Byte) (place : Nat) :
    (fieldBytes kind place fs).length = ws.sum := by
  induction fs generalizing ws place with
  | nil => cases ws with
    | nil => rfl
    | cons w ws => cases h
  | cons f fs ih => cases ws with
    | nil => cases h
    | cons w ws =>
      obtain ⟨first, rest⟩ := List.cons.inj h
      rw [fieldBytes, List.length_append, length_toBytes_of_printed first, ih rest, List.sum_cons]

/-- R24: the widths of an entry's fields. -/
def Entry.widths (e : Entry) : List Nat :=
  [2, 1] ++ e.pan.toList.map (fun _ => 4) ++ e.tilt.toList.map (fun _ => 4) ++ e.intensity.toList.map (fun _ => 2)
    ++ e.colour.toList.flatMap (fun _ => [2, 2, 2])

theorem Entry.fields_printed (e : Entry) : e.fields.map Field.printedWidth = e.widths.map some := by
  obtain ⟨_, _ | _, _ | _, _ | _, _ | _⟩ := e <;> rfl

theorem Entry.sum_widths (e : Entry) : e.widths.sum = 3 + (if e.pan.isSome then 4 else 0) + (if e.tilt.isSome then 4 else 0)
    + (if e.intensity.isSome then 2 else 0) + (if e.colour.isSome then 6 else 0) := by
  obtain ⟨_, _ | _, _ | _, _ | _, _ | _⟩ := e <;> rfl

theorem CueReport.fields_printed (r : CueReport) : r.fields.map Field.printedWidth =
    ([2, 1, 4, 4, 4, 4, 4, 4, 2] ++ r.cue.entries.flatMap Entry.widths ++ [2]).map some := by
  have entries : (r.cue.entries.flatMap Entry.fields).map Field.printedWidth = (r.cue.entries.flatMap Entry.widths).map some := by
    rw [List.map_flatMap, List.map_flatMap]
    exact List.flatMap_congr fun e _ => e.fields_printed
  rw [CueReport.fields, List.map_append, List.map_append, List.map_append, List.map_append, entries]
  rfl

/-- R33: the length of a READ CUE reply. -/
theorem length_readCue (tag : Byte) (r : CueReport) (now : Bool) : (Outgoing.reply ⟨0x27#8, tag, .ok, .cue r, now⟩).body.length =
    32 + (r.cue.entries.map (fun e => 3 + (if e.pan.isSome then 4 else 0) + (if e.tilt.isSome then 4 else 0)
      + (if e.intensity.isSome then 2 else 0) + (if e.colour.isSome then 6 else 0))).sum := by
  show (Status.code .ok :: fieldBytes 0x27#8 0 r.fields).length = _
  rw [List.length_cons, length_fieldBytes r.fields_printed, List.sum_append, List.sum_append, List.flatMap,
    List.sum_flatten, List.map_map, List.map_congr_left fun e _ => e.sum_widths]
  simp only [List.sum_cons, List.sum_nil]
  omega

/-- Settles O11: the transmit arbiter's choice, and the bytes of what it sends. -/
theorem transmitSendsRepliesFirst : Obligations.TransmitSendsRepliesFirst := by
  refine ⟨fun t s => ⟨_, exec_transmitFrameEnd s t, fun r rs replies => ?_, fun n ns none notices => ?_, fun none empty => ?_⟩,
    fun o => ⟨o.head.1, o.head.2.1, o.head.2.2, _, _, rfl, rfl, rfl, rfl, ?_, assemble_frame o⟩, fun r => ⟨rfl, fun bare => ?_⟩,
    fun n lost => ⟨rfl, kindCode_range n⟩, fun w n => ⟨length_toBytes w n, ofBytes_toBytes w n⟩,
    fun w v => ofBytes_signedBytes w, length_readCue⟩
  · rw [startTransmit_reply (s := { s.advance t with link := { s.link with sending := Option.none } }) rfl replies]
  · rw [startTransmit_notice (s := { s.advance t with link := { s.link with sending := Option.none } }) rfl none notices]
  · rw [startTransmit_empty (s := { s.advance t with link := { s.link with sending := Option.none } }) none empty]
  · rw [Outgoing.sendTime, length_frame, Nat.mul_comm, Nat.add_comm]
  · rw [Outgoing.body, Outgoing.fields, bare]
    rfl

end Sys2Proof.Machine
end

section
/-! SUPPORT. What an operation leaves as it was, told by what may differ: two states are the same but for some components when
they are equal with these components blanked. -/

namespace Sys2Proof.Machine

open Sys2Proof

/-- `s` and `u` are equal but for what `blank` takes away. -/
def SameBut (blank : State → State) (s u : State) : Prop := blank u = blank s

namespace SameBut

variable {blank : State → State} {s u v : State}

theorem refl (s : State) : SameBut blank s s := rfl

theorem trans (h : SameBut blank s u) (k : SameBut blank u v) : SameBut blank s v := Eq.trans k h

theorem foldl {α : Type} {f : State → α → State} (h : ∀ u a, SameBut blank u (f u a)) (l : List α) (s : State) :
    SameBut blank s (l.foldl f s) := by
  induction l generalizing s with
  | nil => exact .refl s
  | cons a l ih => exact (h s a).trans (ih (f s a))

/-- What does not read the components that may differ reads the same. -/
theorem read {β : Type} (h : SameBut blank s u) (r : State → β) (blind : ∀ w, r (blank w) = r w) : r u = r s := by
  rw [← blind u, ← blind s, h]

/-- States alike but for some components are alike but for more. -/
theorem weaken {wider : State → State} (h : SameBut blank s u) (blind : ∀ w, wider (blank w) = wider w) : SameBut wider s u :=
  h.read wider blind

end SameBut

/-- A state without its lines. -/
def State.sansLines (s : State) : State := { s with lines := ⟨[]⟩ }

/-- A state without its lines and its replies: those waiting, and the tags of those deferred. -/
def State.sansLinesReplies (s : State) : State := { s with lines := ⟨[]⟩, link.replies := [], link.inFlight := [] }

/-- A state without its lines, its link and its supervision. -/
def State.sansLinesLinkWatch (s : State) : State :=
  { s with lines := ⟨[]⟩, link := ⟨.hunting, [], [], [], false, none⟩, supervision := ⟨[], [], 0, 0, 0⟩ }

variable (s : State)

/-! ## The lines -/

theorem decideTurn_same (l : Nat) : SameBut State.sansLines s (s.decideTurn l) := by
  unfold State.decideTurn
  split <;> rfl

theorem loadDecision_same (before : State) (l : Nat) : SameBut State.sansLines s (State.loadDecision before s l) := by
  unfold State.loadDecision
  split
  · exact decideTurn_same s l
  · rfl

theorem resetDecision_same (before : State) (l : Nat) : SameBut State.sansLines s (State.resetDecision before s l) := by
  unfold State.resetDecision
  split
  · exact decideTurn_same s l
  · rfl

theorem abortEntries_same (es : List QueryEntry) : SameBut State.sansLinesReplies s (s.abortEntries es) :=
  .foldl (fun u e => by unfold State.abortEntry; split <;> rfl) es s

theorem clearLine_same (l : Nat) : SameBut State.sansLinesReplies s (s.clearLine l) :=
  abortEntries_same (s.setLine l _) _

theorem resetLine_same (l : Nat) : SameBut State.sansLinesReplies s (s.resetLine l) :=
  abortEntries_same (s.setLine l _) _

/-! ## The decision of a line without queries -/

/-- R142: the line a refresh frame of `s` leaves. -/
def Line.refreshed (y : Line) (s : State) (l : Nat) : Line :=
  { y with
    turn := .frame (0x00#8 :: s.frameSlots l)
    refreshDue := false
    refreshTimer := some (s.now + 1000 * effectiveMs y.settings.refreshMs (s.slotCount l))
    snapshot := s.frameSnapshot l }

theorem startRefresh_line (l : Nat) : (s.startRefresh l).line l = (s.line l).refreshed s l := by
  rw [State.startRefresh, line_setLine, if_pos rfl]
  rfl

/-- What a refresh frame is built from does not read the lines. -/
theorem refreshed_of_same {s u : State} (h : SameBut State.sansLines s u) (y : Line) (l : Nat) :
    y.refreshed u l = y.refreshed s l :=
  h.read (y.refreshed · l) fun _ => rfl

/-- R140, R141: a line without a query turns to a refresh frame. -/
def Line.refreshes (y : Line) (slots : Nat) : Prop :=
  y.turn = .idle ∧ y.settings.enabled = true ∧ y.refreshDue = true ∧ 0 < slots

theorem decideTurn_refreshes {s : State} {l : Nat} (empty : (s.line l).queue = []) (h : (s.line l).refreshes (s.slotCount l)) :
    (s.decideTurn l).line l = (s.line l).refreshed s l := by
  obtain ⟨idle, enabled, due, slots⟩ := h
  rw [State.decideTurn, Line.grant, if_neg (by simp [idle, enabled])]
  simp only [empty, due, slots, decide_true, Bool.and_self, if_true]
  exact startRefresh_line s l

theorem decideTurn_waits {s : State} {l : Nat} (empty : (s.line l).queue = []) (h : ¬ (s.line l).refreshes (s.slotCount l)) :
    s.decideTurn l = s := by
  by_cases busy : (s.line l).turn ≠ .idle ∨ (s.line l).settings.enabled = false
  · exact decideTurn_busy s l busy
  · rw [not_or, not_not, Bool.not_eq_false] at busy
    rw [State.decideTurn, Line.grant, if_neg (by simp [busy])]
    simp only [empty]
    rw [if_neg]
    intro granted
    rw [Bool.and_eq_true, decide_eq_true_iff] at granted
    exact h ⟨busy.1, busy.2, granted.1, granted.2⟩

/-- A visit that decides, or not, on a line without a query. -/
theorem decideTurn_empty {s : State} {l : Nat} (empty : (s.line l).queue = []) : (s.decideTurn l).line l = s.line l ∨
    (s.line l).refreshes (s.slotCount l) ∧ (s.decideTurn l).line l = (s.line l).refreshed s l := by
  by_cases h : (s.line l).refreshes (s.slotCount l)
  · exact .inr ⟨h, decideTurn_refreshes empty h⟩
  · exact .inl (by rw [decideTurn_waits empty h])

theorem mem_lineIds (l : Nat) : l ∈ lineIds ↔ l < 16 := List.mem_range

/-! ## The lines at a LOAD -/

/-- R151: a line after the settings of a LOAD, before its decision. -/
def State.loadedLine (s : State) (i : Image) (l : Nat) : Line :=
  (s.line l).cleared.loaded (Table.get LineSettings.powerOn i.lines l) s.now (s.slotCount l) ((s.loadImage i).slotCount l)

theorem loadMotion_fields (before after : State) : (State.loadMotion before after).now = after.now
    ∧ (State.loadMotion before after).startUp = after.startUp ∧ (State.loadMotion before after).link = after.link
    ∧ (State.loadMotion before after).store = after.store ∧ (State.loadMotion before after).patch = after.patch
    ∧ (State.loadMotion before after).cues = after.cues ∧ (State.loadMotion before after).playback = after.playback
    ∧ (State.loadMotion before after).merge = after.merge ∧ (State.loadMotion before after).zones = after.zones
    ∧ (State.loadMotion before after).effects = after.effects ∧ (State.loadMotion before after).inputs = after.inputs
    ∧ (State.loadMotion before after).lines = after.lines ∧ (State.loadMotion before after).pending = after.pending :=
  ⟨rfl, rfl, rfl, rfl, rfl, rfl, rfl, rfl, rfl, rfl, rfl, rfl, rfl⟩

/-- R178: the tables a LOAD has replaced before it comes to the lines. -/
theorem loadedRest_fields (i : Image) : (s.loadedRest i).now = s.now ∧ (s.loadedRest i).startUp = s.startUp
    ∧ (s.loadedRest i).store = s.store ∧ (s.loadedRest i).patch = ⟨i.personalities, i.heads, i.groups⟩
    ∧ (s.loadedRest i).cues = ⟨i.lists⟩ ∧ (s.loadedRest i).zones = ⟨i.zones, false⟩ ∧ (s.loadedRest i).merge = s.merge
    ∧ (s.loadedRest i).effects = s.effects ∧ (s.loadedRest i).lines = s.lines
    ∧ (s.loadedRest i).supervision = { s.supervision with heads := [], rehomeQueue := [], homingCount := 0 } := by
  simp only [State.loadedRest, resetSupervision_fields, loadMotion_fields, State.loadedTables, loadLayers_fields,
    loadTriggers_fields]
  refine ⟨rfl, rfl, rfl, rfl, rfl, rfl, rfl, rfl, rfl, ?_⟩
  simp only [State.resetSupervision, State.loadMotion, loadLayers_fields, loadTriggers_fields]
  rfl

/-- A LOAD's visits of the lines change the lines and what is answered to their queries. -/
theorem loadImage_same (i : Image) : SameBut State.sansLinesReplies (s.loadedRest i) (s.loadImage i) := by
  rw [loadImage_eq]
  have decided := SameBut.foldl (blank := State.sansLinesReplies) (f := State.loadDecision s)
    (fun u l => (loadDecision_same u s l).read State.sansLinesReplies fun _ => rfl) lineIds
  have loaded := SameBut.foldl (blank := State.sansLinesReplies) (f := State.loadLine s i) (fun _ _ => rfl) lineIds
  exact ((SameBut.foldl clearLine_same lineIds _).trans (loaded _)).trans (decided _)

theorem loadImage_fields (i : Image) : (s.loadImage i).now = s.now ∧ (s.loadImage i).startUp = s.startUp
    ∧ (s.loadImage i).store = s.store ∧ (s.loadImage i).patch = ⟨i.personalities, i.heads, i.groups⟩
    ∧ (s.loadImage i).cues = ⟨i.lists⟩ ∧ (s.loadImage i).zones = ⟨i.zones, false⟩ ∧ (s.loadImage i).merge = s.merge
    ∧ (s.loadImage i).effects = s.effects
    ∧ (s.loadImage i).supervision = { s.supervision with heads := [], rehomeQueue := [], homingCount := 0 } := by
  have same := loadImage_same s i
  obtain ⟨now, startUp, store, patch, cues, zones, merge, effects, _, supervision⟩ := loadedRest_fields s i
  exact ⟨(same.read State.now fun _ => rfl).trans now, (same.read State.startUp fun _ => rfl).trans startUp,
    (same.read State.store fun _ => rfl).trans store, (same.read State.patch fun _ => rfl).trans patch,
    (same.read State.cues fun _ => rfl).trans cues, (same.read State.zones fun _ => rfl).trans zones,
    (same.read State.merge fun _ => rfl).trans merge, (same.read State.effects fun _ => rfl).trans effects,
    (same.read State.supervision fun _ => rfl).trans supervision⟩

/-- R135: the settings of one trigger line at a LOAD. -/
def State.loadTrigger (i : Image) (s : State) (n : Nat) : State :=
  s.setTrigger n { s.trigger n with entry := Table.get TriggerEntry.powerOn i.triggers n, pending := false }

/-- R178: the settings of one layer at a LOAD. -/
def State.loadLayer (i : Image) (s : State) (l : Nat) : State :=
  s.setLayer l { s.layer l with settings := Table.get LayerSettings.powerOn i.layers l }

theorem loadTriggers_eq (i : Image) : s.loadTriggers i = triggerIds.foldl (State.loadTrigger i) s := rfl

theorem loadLayers_eq (i : Image) : s.loadLayers i = layerIds.foldl (State.loadLayer i) s := rfl

theorem loadTriggers_trigger (i : Image) {n : Nat} (hn : n < 8) : (s.loadTriggers i).trigger n =
    ⟨false, (s.trigger n).lastEdge, Table.get TriggerEntry.powerOn i.triggers n⟩ := by
  rw [loadTriggers_eq, foldl_update (ks := triggerIds) (f := State.loadTrigger i) (read := State.trigger)
    (g := fun n x => { x with entry := Table.get TriggerEntry.powerOn i.triggers n, pending := false })
    (fun u l k => trigger_setTrigger u l k _) List.nodup_range, if_pos (show n ∈ triggerIds from List.mem_range.mpr hn)]

theorem loadLayers_layer (i : Image) {l : Nat} (hl : l < 12) : (s.loadLayers i).layer l =
    { s.layer l with settings := Table.get LayerSettings.powerOn i.layers l } := by
  rw [loadLayers_eq, foldl_update (ks := layerIds) (f := State.loadLayer i) (read := State.layer)
    (g := fun l y => { y with settings := Table.get LayerSettings.powerOn i.layers l })
    (fun u l k => layer_setLayer u l k _) List.nodup_range, if_pos (show l ∈ layerIds from List.mem_range.mpr hl)]

theorem loadTriggers_inputs (i : Image) : (s.loadTriggers i).inputs.beat = s.inputs.beat
    ∧ (s.loadTriggers i).inputs.timecode = s.inputs.timecode ∧ (s.loadTriggers i).inputs.floor = s.inputs.floor := by
  rw [loadTriggers_eq]
  generalize triggerIds = ns
  exact ⟨foldl_read (fun u => u.inputs.beat) (by intros; rfl) s, foldl_read (fun u => u.inputs.timecode) (by intros; rfl) s,
    foldl_read (fun u => u.inputs.floor) (by intros; rfl) s⟩

theorem loadLayers_takeStack (i : Image) : (s.loadLayers i).playback.takeStack = s.playback.takeStack := by
  rw [loadLayers_eq]
  generalize layerIds = ls
  exact foldl_read (fun u => u.playback.takeStack) (by intros; rfl) s

theorem loadedRest_inputs (i : Image) : (s.loadedRest i).inputs = ((s.withTables i).loadTriggers i).inputs := by
  simp only [State.loadedRest, resetSupervision_fields, loadMotion_fields, State.loadedTables, loadLayers_fields]

theorem loadedRest_playback (i : Image) :
    (s.loadedRest i).playback = (((s.withTables i).loadTriggers i).loadLayers i).playback := by
  simp only [State.loadedRest, resetSupervision_fields, loadMotion_fields, State.loadedTables]

theorem trigger_of_inputs {s u : State} (h : u.inputs = s.inputs) (n : Nat) : u.trigger n = s.trigger n := by
  rw [State.trigger, h]; rfl

theorem layer_of_playback {s u : State} (h : u.playback = s.playback) (l : Nat) : u.layer l = s.layer l := by
  rw [State.layer, h]; rfl

/-- R135: what a LOAD leaves of the show inputs. -/
theorem loadImage_inputs (i : Image) : (s.loadImage i).inputs.beat = s.inputs.beat
    ∧ (s.loadImage i).inputs.timecode = s.inputs.timecode ∧ (s.loadImage i).inputs.floor = s.inputs.floor
    ∧ ∀ n < 8, (s.loadImage i).trigger n = ⟨false, (s.trigger n).lastEdge, Table.get TriggerEntry.powerOn i.triggers n⟩ := by
  have inputs : (s.loadImage i).inputs = ((s.withTables i).loadTriggers i).inputs :=
    ((loadImage_same s i).read State.inputs fun _ => rfl).trans (loadedRest_inputs s i)
  obtain ⟨beat, timecode, floor⟩ := loadTriggers_inputs (s.withTables i) i
  rw [inputs]
  exact ⟨beat, timecode, floor, fun n hn => (trigger_of_inputs inputs n).trans (loadTriggers_trigger _ i hn)⟩

/-- R178: what a LOAD leaves of playback. -/
theorem loadImage_playback (i : Image) : (s.loadImage i).playback.takeStack = s.playback.takeStack
    ∧ ∀ l < 12, (s.loadImage i).layer l = { s.layer l with settings := Table.get LayerSettings.powerOn i.layers l } := by
  have playback : (s.loadImage i).playback = (((s.withTables i).loadTriggers i).loadLayers i).playback :=
    ((loadImage_same s i).read State.playback fun _ => rfl).trans (loadedRest_playback s i)
  have before : ((s.withTables i).loadTriggers i).playback = s.playback := (loadTriggers_fields _ i).2.2.2.2.2.2.1
  refine ⟨?_, fun l hl => ?_⟩
  · rw [playback, loadLayers_takeStack, before]
  · rw [layer_of_playback playback, loadLayers_layer _ i hl, layer_of_playback before]

theorem patched_of_patch {u v : State} (h : u.patch = v.patch) (head : Nat) : u.patched head = v.patched head := by
  rw [State.patched, State.placement, State.headPatch, h, State.patched, State.placement, State.headPatch]

theorem loadedMotion_of_patch {u v : State} (h : u.patch = v.patch) (head : Nat) :
    loadedMotion s u head = loadedMotion s v head := by
  show loadedMotion s { s with patch := u.patch } head = loadedMotion s { s with patch := v.patch } head
  rw [h]

theorem motion_of_heads {u v : State} (h : u.limiter.heads = v.limiter.heads) (head : Nat) : u.motion head = v.motion head := by
  rw [State.motion, h]; rfl

theorem loadedRest_heads (i : Image) :
    (s.loadedRest i).limiter.heads = (State.loadMotion s (s.loadedTables i)).limiter.heads := by
  simp only [State.loadedRest, resetSupervision_fields]

/-- R91: the motion of a head after a LOAD. -/
theorem loadImage_motion (i : Image) (h : Nat) : (s.loadImage i).motion h =
    if (s.loadImage i).patched h = true then loadedMotion s (s.loadImage i) h else none := by
  have heads : (s.loadImage i).limiter.heads = (State.loadMotion s (s.loadedTables i)).limiter.heads :=
    ((loadImage_same s i).read (·.limiter.heads) fun _ => rfl).trans (loadedRest_heads s i)
  have patch : (s.loadImage i).patch = (s.loadedTables i).patch := by
    rw [(loadImage_fields s i).2.2.2.1, loadedTables_patch]
  rw [motion_of_heads heads, loadMotion_motion, patched_of_patch patch, loadedMotion_of_patch s patch]

theorem loadLine_same (before : State) (i : Image) (l : Nat) : SameBut State.sansLines s (State.loadLine before i s l) := rfl

/-- R151: what the settings of a LOAD leave of a line. -/
theorem loadLines_line (before : State) (i : Image) {l : Nat} (hl : l < 16) :
    (lineIds.foldl (State.loadLine before i) s).line l =
      (s.line l).loaded (Table.get LineSettings.powerOn i.lines l) s.now (before.slotCount l) (s.slotCount l) := by
  have other : ∀ (u : State) (j k : Nat), k ≠ j → (State.loadLine before i u j).line k = u.line k := fun u j k apart => by
    rw [State.loadLine, line_setLine, if_neg apart]
  obtain ⟨visits, unvisited, visited⟩ := foldl_visit other nodup_lineIds ((mem_lineIds l).mpr hl) s
  have same := SameBut.foldl (fun u j => loadLine_same u before i j) visits s
  have now := same.read State.now fun _ => rfl
  have slots := same.read (State.slotCount · l) fun _ => rfl
  rw [visited, State.loadLine, line_setLine, if_pos rfl, unvisited, now, slots]

theorem loadDecision_other (before : State) {l k : Nat} (apart : k ≠ l) :
    (State.loadDecision before s l).line k = s.line k := by
  unfold State.loadDecision
  split
  · exact decideTurn_other s l k apart
  · rfl

theorem loadDecision_empty (before : State) {l : Nat} (empty : (s.line l).queue = []) :
    (State.loadDecision before s l).line l = s.line l ∨ (s.line l).refreshes (s.slotCount l)
      ∧ (State.loadDecision before s l).line l = (s.line l).refreshed s l := by
  unfold State.loadDecision
  split
  · exact decideTurn_empty empty
  · exact .inl rfl

/-- R148: what the decisions of a LOAD leave of a line without a query. -/
theorem loadDecisions_line (before : State) {l : Nat} (hl : l < 16) (empty : (s.line l).queue = []) :
    (lineIds.foldl (State.loadDecision before) s).line l = s.line l ∨ (s.line l).refreshes (s.slotCount l)
      ∧ (lineIds.foldl (State.loadDecision before) s).line l = (s.line l).refreshed s l := by
  obtain ⟨visits, unvisited, visited⟩ :=
    foldl_visit (fun u j k => loadDecision_other u before) nodup_lineIds ((mem_lineIds l).mpr hl) s
  have same := SameBut.foldl (fun u j => loadDecision_same u before j) visits s
  have slots := same.read (State.slotCount · l) fun _ => rfl
  have decided := loadDecision_empty (visits.foldl (State.loadDecision before) s) before (unvisited ▸ empty)
  rwa [← visited, unvisited, slots, refreshed_of_same same] at decided

/-- R151: a line after a LOAD: what its settings left, or the refresh frame of its decision. -/
theorem loadImage_line (i : Image) {l : Nat} (hl : l < 16) : (s.loadImage i).line l = s.loadedLine i l ∨
    (s.loadedLine i l).refreshes ((s.loadImage i).slotCount l)
      ∧ (s.loadImage i).line l = (s.loadedLine i l).refreshed (s.loadImage i) l := by
  have settled := SameBut.foldl (fun u j => loadLine_same u s i j) lineIds (lineIds.foldl State.clearLine (s.loadedRest i))
  have decided := SameBut.foldl (fun u j => loadDecision_same u s j) lineIds
    (lineIds.foldl (State.loadLine s i) (lineIds.foldl State.clearLine (s.loadedRest i)))
  have line := loadLines_line (lineIds.foldl State.clearLine (s.loadedRest i)) s i hl
  have now := (settled.trans decided).read State.now fun _ => rfl
  have slots := (settled.trans decided).read (State.slotCount · l) fun _ => rfl
  have decidedSlots := decided.read (State.slotCount · l) fun _ => rfl
  have built := refreshed_of_same decided
  rw [← loadImage_eq] at now slots decidedSlots built
  have same : (lineIds.foldl (State.loadLine s i) (lineIds.foldl State.clearLine (s.loadedRest i))).line l =
      s.loadedLine i l := by
    rw [line, clearLines_line _ ((mem_lineIds l).mpr hl), ← now, ← slots, line_of_lines (loadedRest_fields s i).2.2.2.2.2.2.2.2.1,
      (loadImage_fields s i).1, State.loadedLine]
  have decision := loadDecisions_line _ s hl (congrArg Line.queue same)
  rwa [← loadImage_eq, same, ← decidedSlots, ← built] at decision

end Sys2Proof.Machine
end

section
/-! SUPPORT. The reads (R173, R174), power-on and start-up (R179), the show store (R176 to R178). -/

namespace Sys2Proof.Machine

open Sys2Proof

/-- Settles O12, read by read: the owner accepts at once, its state as it was. -/
theorem readsChangeNothing : Obligations.ReadsChangeNothing := by
  intro t tag s admits
  have reply : ∀ (kind : Byte) (own : Owner) (body : ReplyBody), own tag (s.advance t) = accept (s.advance t) body →
      request t tag kind own s = .next ((s.advance t).answered kind tag .ok body) := fun kind own body served =>
    request_reply s t tag kind own _ .ok body admits served
  have identified : (s.advance t).handle tag 0x01#8 true ownIdentify = (s.advance t).serve tag 0x01#8 ownIdentify :=
    handle_of_admits _ tag _ true _ (by simpa using admits)
  refine ⟨?_, reply _ ownReadRig _ rfl, fun h hh => reply _ (ownReadHead h) _ (if_neg hh.not_ge),
    fun n hn start => reply _ (ownReadList n start) _ (if_neg hn.not_ge), ?_,
    fun l hl => reply _ (ownReadLayer l) _ (if_neg hl.not_ge), fun z hz => reply _ (ownReadZone z) _ (if_neg hz.not_ge),
    fun n hn => reply _ (ownReadTrigger n) _ (if_neg hn.not_ge), fun l hl => reply _ (ownReadLine l) _ (if_neg hl.not_ge)⟩
  · show Host.Outcome.next ((s.advance t).handle tag 0x01#8 true ownIdentify).startTransmit = _
    rw [identified]
    rfl
  · intro n hn number h hh cl c positive list cue
    refine reply _ (ownReadCue n number h) _ ?_
    have valid : ¬ (Config.cueLists ≤ n ∨ number = 0#16 ∨ Config.heads ≤ h) := by
      rw [not_or, not_or]
      exact ⟨hn.not_ge, positive, hh.not_ge⟩
    have found : ((s.advance t).list n).bind (fun cl => cl.cue number.toNat) = some c := by
      rw [show (s.advance t).list n = some cl from list, Option.bind_some, cue]
    rw [ownReadCue, if_neg valid, found]

theorem reset_images (i : Image) : i ∉ State.reset.store.images := by
  simp [Store.images, State.reset, State.powerOn, Store.blank]

theorem reset_linesBounded : State.reset.LinesBounded :=
  ⟨fun _ => ⟨Nat.zero_le _, Nat.zero_le _, show 1 ≤ Line.powerOn.settings.maxWait by decide⟩,
    fun i stored => absurd stored (reset_images i)⟩

theorem reset_beatBounded : State.reset.BeatBounded := ⟨by decide, nofun, by decide, by decide, by decide⟩

theorem reset_stackHoldsTaken : State.reset.StackHoldsTaken :=
  ⟨List.nodup_nil, fun _ => by simp [State.reset, State.powerOn, State.layer, Table.get, Layer.powerOn]⟩

theorem reset_motionBounded : State.reset.MotionBounded :=
  ⟨nofun, nofun, fun i stored => absurd stored (reset_images i)⟩

/-- Settles O14: an empty table reads as the power-on record at every number. -/
theorem powerOnResetValues : Obligations.PowerOnResetValues := by
  refine ⟨fun d s => ⟨s.powerOnReset d, rfl, rfl, rfl, rfl, rfl, fun _ => rfl, fun _ => rfl, fun _ => rfl, fun _ => rfl, rfl,
    rfl, fun _ => rfl, rfl, rfl, rfl, rfl, rfl, rfl, fun _ => rfl, fun _ => rfl, rfl, fun _ => rfl, rfl, rfl, fun _ => rfl,
    rfl, fun _ => ⟨rfl, rfl⟩, fun _ => rfl, rfl, rfl, rfl, rfl⟩, ?_⟩
  exact ⟨by simp [State.NoticesBounded, State.reset, State.powerOn], reset_linesBounded, reset_beatBounded,
    reset_stackHoldsTaken, ⟨by decide, by decide, by decide⟩, nofun, ⟨by decide, by decide⟩, reset_motionBounded, by decide⟩

/-! ## Start-up -/

theorem request_starting {s : State} (starting : s.startUp = .starting) (room : s.immediateHeld < 32) (t : Nat)
    (tag kind : Byte) (own : Owner) : request t tag kind own s = .next ((s.advance t).answered kind tag .starting .bare) := by
  have answered : (s.advance t).handle tag kind false own = (s.advance t).enqueueReply ⟨kind, tag, .starting, .bare, true⟩ :=
    handle_starting own room starting
  rw [request, command_eq, answered]
  rfl

/-- R178, R179: the sum of bytes read as they were written is the image's check, and of others what is given. -/
theorem readSum_eq {altered : Option (BitVec 32)} {i : Image} {sum : BitVec 32}
    (h : altered = none ∧ sum = i.check ∨ altered = some sum) : readSum i altered = sum := by
  rcases h with ⟨rfl, rfl⟩ | rfl <;> rfl

theorem startFromImage_invalid {s : State} {i : Image} {altered : Option (BitVec 32)} (h : readSum i altered ≠ s.store.check) :
    s.startFromImage i altered = (s.summed (readSum i altered)).becomeReady .invalid none :=
  if_neg h

theorem startFromImage_loaded {s : State} {i : Image} {altered : Option (BitVec 32)} (h : readSum i altered = s.store.check) :
    s.startFromImage i altered =
      ((s.summed (readSum i altered)).loadImage i).becomeReady .loaded (some (imagePages i.bytes)) :=
  if_pos h

theorem completeStartUp_written {s : State} (starting : s.startUp = .starting) (word : s.store.word = .written) {i : Image}
    (image : s.store.image = some i) (altered : Option (BitVec 32)) : s.completeStartUp altered = s.startFromImage i altered := by
  rw [State.completeStartUp, if_pos starting, word, image]

theorem loadImage_line_settings (s : State) (i : Image) {l : Nat} (hl : l < 16) :
    ((s.loadImage i).line l).settings = Table.get LineSettings.powerOn i.lines l := by
  rcases loadImage_line s i hl with same | ⟨_, refreshed⟩
  · rw [same]; rfl
  · rw [refreshed]; rfl

/-- Settles O15: `loadImage` says what a valid image leaves of every table. -/
theorem startUpEndsByStateWord : Obligations.StartUpEndsByStateWord := by
  refine ⟨fun t tag s starting room free => ⟨?_, request_starting starting room t tag _ _,
    fun _ => request_starting starting room t tag _ _, request_starting starting room t tag _ _⟩, fun t altered s starting => ?_⟩
  · show Host.Outcome.next ((s.advance t).handle tag 0x01#8 true ownIdentify).startTransmit = _
    rw [handle_serves (s := s.advance t) ownIdentify room (.inr rfl) free, State.serve, ownIdentify, accept, (advance_fields s t).1, starting]
    rfl
  · have run : ∀ u, (s.advance t).completeStartUp altered = u → exec (.startUpComplete t altered) s = .next u.startTransmit :=
      fun u h => congrArg (fun v : State => Host.Outcome.next v.startTransmit) h
    have starts : (s.advance t).startUp = .starting := starting
    refine ⟨fun word => run _ ?_, fun word => run _ ?_, fun i sum word image read => ⟨fun differs => run _ ?_, fun matched => ?_⟩⟩
    · rw [State.completeStartUp, if_pos starts, show (s.advance t).store.word = .never from word]
      rfl
    · rw [State.completeStartUp, if_pos starts, show (s.advance t).store.word = .writing from word]
      rfl
    · rw [completeStartUp_written starts word image, startFromImage_invalid (by rw [readSum_eq read]; exact differs),
        readSum_eq read]
      rfl
    · have loaded := completeStartUp_written starts word image altered
      rw [startFromImage_loaded (by rw [readSum_eq read]; exact matched), readSum_eq read] at loaded
      obtain ⟨_, _, _, patch, cues, zones, merge, _, _⟩ := loadImage_fields ((s.advance t).summed sum) i
      refine ⟨((s.advance t).summed sum).loadImage i, (run _ loaded).trans ?_, patch, zones, cues, fun n hn => ?_,
        fun l hl => loadImage_line_settings _ i hl, fun l hl => ?_⟩
      · rw [State.becomeReady, merge]
        rfl
      · rw [(loadImage_inputs _ i).2.2.2 n hn]
      · rw [(loadImage_playback _ i).2 l hl]

/-! ## The show store -/

theorem storeBusy_eq_false {s : State} : s.storeBusy = false ↔ s.store.activity = .idle := by
  rw [State.storeBusy]
  cases s.store.activity <;> simp

theorem length_content (i : Image) : i.content.length = i.bytes := by
  rw [Image.content, List.length_map, List.length_range]

theorem allIdle_of {s : State} (idle : ∀ l < 12, (s.layer l).state = .idle) : s.allIdle = true := by
  rw [State.allIdle, List.all_eq_true]
  exact fun l hl => decide_eq_true (idle l (List.mem_range.mp hl))

theorem imageState_valid {st : Store} (word : st.word = .written) (image : st.image.isSome = true) (check : st.sum = st.check) :
    st.imageState = .valid := by
  rw [Store.imageState, word, image, check, decide_eq_true rfl]
  rfl

theorem imageState_invalid {st : Store} (word : st.word = .written) (check : st.sum ≠ st.check) : st.imageState = .invalid := by
  rw [Store.imageState, word, decide_eq_false check, Bool.and_false]
  rfl

theorem ownSave_idle {s : State} (h : s.storeBusy = false) (tag : Byte) : ownSave tag s =
    (s.setStore { s.store with word := .writing, image := none, activity := .saving tag s.capture }, .deferred) := by
  rw [ownSave, if_neg (by simp [h])]

theorem ownLoad_idle {s : State} (activity : s.store.activity = .idle) (idle : s.allIdle = true)
    (valid : s.store.imageState = .valid) (tag : Byte) :
    ownLoad tag s = (s.setStore { s.store with activity := .loading tag }, .deferred) := by
  rw [ownLoad, if_neg (by simp [storeBusy_eq_false.mpr activity]), if_neg (by simp [idle]), if_neg (by simp [valid])]

theorem exec_save {s : State} {tag : Byte} (admits : s.admits tag = true) (free : s.storeBusy = false) (t : Nat) :
    exec (.save t tag) s = .next (({ s.advance t with
      store := ⟨.writing, s.store.check, s.store.sum, none, .saving tag s.capture⟩ }).deferredTag tag).startTransmit :=
  request_deferred s t tag kindSave ownSave _ admits (ownSave_idle (s := s.advance t) free tag)

theorem exec_saveComplete {s : State} {tag : Byte} {i : Image} (saving : s.store.activity = .saving tag i) (t : Nat) :
    exec (.saveComplete t) s = .next ((({ s.advance t with
      store := ⟨.written, i.check, i.check, some i, .idle⟩ }).answerDeferred
      0x05#8 tag .ok (.saved (imagePages i.bytes) i.bytes)).startTransmit) := by
  show Host.Outcome.next (s.advance t).saveComplete.startTransmit = _
  rw [State.saveComplete, show (s.advance t).store.activity = .saving tag i from saving]
  rfl

theorem replacementPoint_matched {s : State} {tag : Byte} {i : Image} {altered : Option (BitVec 32)}
    (loading : s.store.activity = .loading tag) (image : s.store.image = some i) (sum : readSum i altered = s.store.check) :
    s.replacementPoint altered = (s.summed s.store.check).replaceTables tag i := by
  rw [State.replacementPoint, loading, image]
  exact (if_pos sum).trans (by rw [sum])

theorem replacementPoint_differs {s : State} {tag : Byte} {i : Image} {altered : Option (BitVec 32)}
    (loading : s.store.activity = .loading tag) (image : s.store.image = some i) (sum : readSum i altered ≠ s.store.check) :
    s.replacementPoint altered = (s.summed (readSum i altered)).loadFails tag := by
  rw [State.replacementPoint, loading, image]
  exact if_neg sum

/-- Settles O16, operation by operation. -/
theorem saveAndLoadStartAndEnd : Obligations.SaveAndLoadStartAndEnd := by
  refine ⟨⟨fun t tag s admits free => exec_save admits free t, fun t tag i s saving => exec_saveComplete saving t⟩,
    ⟨fun t tag s admits activity idle word check image => ?_, fun t tag altered i sum s loading image read differs => ?_⟩,
    fun i => ⟨length_content i, (length_content i).symm, BitVec.toNat_ofNat _ _⟩,
    fun st => ⟨fun word => ?_, fun word => ?_, imageState_valid, imageState_invalid⟩⟩
  · exact request_deferred s t tag kindLoad ownLoad _ admits
      (ownLoad_idle (s := s.advance t) activity (allIdle_of idle) (imageState_valid word image check) tag)
  · show Host.Outcome.next ((s.advance t).replacementPoint altered).startTransmit = _
    rw [replacementPoint_differs (s := s.advance t) loading image (by rw [readSum_eq read]; exact differs), readSum_eq read]
    rfl
  · rw [Store.imageState, word]
  · rw [Store.imageState, word]

/-! ## What a LOAD leaves -/

theorem loadedLine_of_busy {s : State} (i : Image) {l : Nat} (hl : l < 16) (busy : (s.line l).turn ≠ .idle) :
    (s.loadImage i).line l = s.loadedLine i l := by
  refine (loadImage_line s i hl).resolve_right fun refreshes => ?_
  obtain ⟨⟨idle, _⟩, _⟩ := refreshes
  have turn : (s.line l).turn.loaded = .idle := idle
  cases h : (s.line l).turn with
  | idle => exact busy h
  | frame slots => rw [h] at turn; cases turn
  | exchange x => rw [h] at turn; cases turn

theorem loadImage_line_cleared (s : State) (i : Image) {l : Nat} (hl : l < 16) :
    ((s.loadImage i).line l).settings = Table.get LineSettings.powerOn i.lines l ∧ ((s.loadImage i).line l).queue = []
      ∧ ((s.loadImage i).line l).wait = 0 ∧ ((s.loadImage i).line l).auditCursor = none := by
  rcases loadImage_line s i hl with same | ⟨_, refreshed⟩
  · rw [same]; exact ⟨rfl, rfl, rfl, rfl⟩
  · rw [refreshed]; exact ⟨rfl, rfl, rfl, rfl⟩

theorem refreshed_turn (y : Line) (s : State) (l : Nat) : (y.refreshed s l).turn = .frame (0x00#8 :: s.frameSlots l) := rfl

theorem refreshed_snapshot (y : Line) (s : State) (l : Nat) : (y.refreshed s l).snapshot = s.frameSnapshot l := rfl

theorem loadImage_line_idle {s : State} (i : Image) {l : Nat} (hl : l < 16) (idle : (s.line l).turn = .idle) :
    ((s.loadImage i).line l).turn = .idle ∧ ((s.loadImage i).line l).snapshot = []
      ∨ ((s.loadImage i).line l).turn = .frame (0x00#8 :: (s.loadImage i).frameSlots l)
        ∧ ((s.loadImage i).line l).snapshot = (s.loadImage i).frameSnapshot l := by
  rcases loadImage_line s i hl with same | ⟨_, refreshed⟩
  · exact .inl (by rw [same]; exact ⟨congrArg Turn.loaded idle, rfl⟩)
  · exact .inr ⟨(congrArg Line.turn refreshed).trans (refreshed_turn _ _ l),
      (congrArg Line.snapshot refreshed).trans (refreshed_snapshot _ _ l)⟩

/-- R91: what makes a LOAD start the motion of a patched head afresh. -/
def Repersonalized (s v : State) (h : Nat) : Prop :=
  s.patched h = false ∨ (s.placement h).map Placement.personality ≠ (v.placement h).map Placement.personality
    ∨ (s.personalityOf h).map Personality.ranges ≠ (v.personalityOf h).map Personality.ranges

theorem loadedMotion_fresh {s v : State} {h : Nat} (patched : v.patched h = true) (fresh : Repersonalized s v h) :
    loadedMotion s v h = some (Motion.fresh (v.headPatch h).homePan (v.headPatch h).homeTilt) := by
  simp only [loadedMotion, patched, Bool.not_true, Bool.false_eq_true, if_false]
  rcases fresh with unpatched | changed | changed
  · rw [if_pos (by simp [unpatched])]
  · rw [if_pos (show personalityChanged s v h = true by simp [personalityChanged, changed]), ite_self]
  · rw [if_pos (show personalityChanged s v h = true by simp [personalityChanged, changed]), ite_self]

theorem loadedMotion_kept {s v : State} {h : Nat} (patched : v.patched h = true) (kept : ¬ Repersonalized s v h) :
    loadedMotion s v h = (s.motion h).map (Motion.cut (v.headPatch h).maxSpeed) := by
  obtain ⟨before, personality, ranges⟩ : s.patched h = true
      ∧ (s.placement h).map Placement.personality = (v.placement h).map Placement.personality
      ∧ (s.personalityOf h).map Personality.ranges = (v.personalityOf h).map Personality.ranges := by
    simpa [Repersonalized] using kept
  simp [loadedMotion, personalityChanged, patched, before, personality, ranges]

theorem loadImage_watch (s : State) (i : Image) (h : Nat) : (s.loadImage i).watch h = Watch.unpatched := by
  obtain ⟨_, _, _, _, _, _, _, _, supervision⟩ := loadImage_fields s i
  rw [State.watch, supervision]
  rfl

/-- Settles O17: the replacement point is `loadImage`, told table by table. -/
theorem loadReplacesEveryTable : Obligations.LoadReplacesEveryTable := by
  intro t tag altered i s loading image matched
  have sum : readSum i altered = s.store.check := readSum_eq (matched.imp (fun h => ⟨h.1, h.2.symm⟩) id)
  let before := ((s.advance t).summed s.store.check).storeIdle
  obtain ⟨_, _, store, patch, cues, zones, merge, effects, supervision⟩ := loadImage_fields before i
  obtain ⟨beat, timecode, floor, triggers⟩ := loadImage_inputs before i
  obtain ⟨stack, layers⟩ := loadImage_playback before i
  refine ⟨before.loadImage i, ?_, patch, zones, cues, triggers, fun l hl => loadImage_line_cleared before i hl,
    fun l hl x turn => ?_, fun l hl slots turn => ?_, fun l hl idle => loadImage_line_idle i hl idle, fun h unpatched => ?_,
    fun h patched changed => ?_, fun h m patched unchanged personality ranges motion => ?_, layers, loadImage_watch before i,
    congrArg Supervision.rehomeQueue supervision, congrArg Supervision.homingCount supervision,
    (congrArg Supervision.homingLimit supervision).trans rfl, congrArg Store.activity store, merge, effects, beat, timecode, floor, stack⟩
  · show Host.Outcome.next ((s.advance t).replacementPoint altered).startTransmit = _
    rw [replacementPoint_matched (s := s.advance t) loading image sum]
    rfl
  · have busy : (before.line l).turn = .exchange x := turn
    rw [loadedLine_of_busy i hl (by simp [busy])]
    exact ⟨congrArg Turn.loaded busy, rfl⟩
  · have busy : (before.line l).turn = .frame slots := turn
    rw [loadedLine_of_busy i hl (by simp [busy])]
    exact ⟨congrArg Turn.loaded busy, rfl⟩
  · rw [loadImage_motion, if_neg (by simp [unpatched])]
  · rw [loadImage_motion, if_pos patched, loadedMotion_fresh (s := before) patched changed]
    rfl
  · have kept : ¬ Repersonalized before (before.loadImage i) h := by
      rintro (no | no | no)
      · exact Bool.false_ne_true (no.symm.trans unchanged)
      · exact no personality
      · exact no ranges
    rw [loadImage_motion, if_pos patched, loadedMotion_kept patched kept, show before.motion h = some m from motion]
    rfl

theorem capture_trigger (s : State) {n : Nat} (hn : n < 8) :
    Table.get TriggerEntry.powerOn s.capture.triggers n = (s.trigger n).entry := by
  rw [State.capture, Table.get_build, if_pos (show n < Config.triggerLines from hn)]

theorem capture_line (s : State) {l : Nat} (hl : l < 16) :
    Table.get LineSettings.powerOn s.capture.lines l = (s.line l).settings := by
  rw [State.capture, Table.get_build, if_pos (show l < Config.headLines from hl)]

theorem capture_layer (s : State) {l : Nat} (hl : l < 12) :
    Table.get LayerSettings.powerOn s.capture.layers l = (s.layer l).settings := by
  rw [State.capture, Table.get_build, if_pos (show l < Config.layers from hl)]

/-- Settles O18: the captured image is the one that the LOAD brings back. -/
theorem savedShowLoadsBack : Obligations.SavedShowLoadsBack := by
  intro t1 t2 t3 tag tag2 s s1 s2 u v admits free save complete image check loading load
  obtain rfl := Host.Outcome.next.inj ((exec_save admits free t1).symm.trans save)
  have saving : ((({ s.advance t1 with store := ⟨.writing, s.store.check, s.store.sum, none, .saving tag s.capture⟩ } :
      State).deferredTag tag).startTransmit).store.activity = .saving tag s.capture := by
    rw [(startTransmit_fields _).2.2.1]
    rfl
  obtain rfl := Host.Outcome.next.inj ((exec_saveComplete saving t2).symm.trans complete)
  rw [(startTransmit_fields _).2.2.1] at image check ⊢
  obtain ⟨w, loads, patch, zones, cues, triggers, lines, _, _, _, _, _, _, layers, _⟩ :=
    loadReplacesEveryTable t3 tag2 none s.capture u loading image (.inl ⟨rfl, check.symm⟩)
  obtain rfl := Host.Outcome.next.inj (loads.symm.trans load)
  simp only [startTransmit_fields, startTransmit_reads]
  refine ⟨imageState_valid rfl rfl rfl, patch, (congrArg Zones.zones zones).trans rfl, cues, fun n hn => ?_, fun l hl => ?_, fun l hl => ?_⟩
  · exact (congrArg Trigger.entry (triggers n hn)).trans (capture_trigger s hn)
  · exact (lines l hl).1.trans (capture_line s hl)
  · exact (congrArg Layer.settings (layers l hl)).trans (capture_layer s hl)

end Sys2Proof.Machine
end

section
/-! SUPPORT. RIG RESET (R175): what each of its parts leaves, and the lines, which decide last (R151). -/

namespace Sys2Proof.Machine

open Sys2Proof

theorem Table.get_of_canonical {α : Type} [DecidableEq α] {d : α} {n : Nat} {m : Table α}
    (canonical : Table.canonical d n m = true) {k : Nat} (hk : ¬ k < n) : Table.get d m k = d :=
  Table.get_of_not_mem d m k fun listed => hk (Table.canonical_keys_lt d n m k canonical listed)

variable (s : State)

/-! ## The owners before the lines -/

/-- A state without its playback. -/
def State.sansPlayback (s : State) : State := { s with playback := ⟨[], [], 0⟩ }

theorem clearLayer_same (l : Nat) : SameBut State.sansPlayback s (s.clearLayer l) := rfl

theorem clearLayers_same : SameBut State.sansPlayback s s.clearLayers := .foldl clearLayer_same layerIds s

theorem clearLayer_layer (l k : Nat) : (s.clearLayer l).layer k = if k = l then (s.layer l).cleared else s.layer k :=
  layer_setLayer s l k _

theorem clearLayers_layer {l : Nat} (hl : l < 12) : s.clearLayers.layer l = (s.layer l).cleared := by
  rw [State.clearLayers, foldl_update (ks := layerIds) (f := State.clearLayer) (read := State.layer)
    (g := fun _ => Layer.cleared) clearLayer_layer List.nodup_range, if_pos (show l ∈ layerIds from List.mem_range.mpr hl)]

theorem foldl_clearLayer_takeStack (ls : List Nat) :
    (ls.foldl State.clearLayer s).playback.takeStack = s.playback.takeStack.diff ls := by
  induction ls generalizing s with
  | nil => rfl
  | cons l ls ih => rw [List.foldl_cons, ih, List.diff_cons]; rfl

/-- R40: the take stack holds layers alone, and each layer leaves it. -/
theorem clearLayers_takeStack {s : State} (holds : s.StackHoldsTaken)
    (canonical : Table.canonical Layer.powerOn Config.layers s.playback.layers = true) : s.clearLayers.playback.takeStack = [] := by
  obtain ⟨once, taken⟩ := holds
  rw [State.clearLayers, foldl_clearLayer_takeStack, List.eq_nil_iff_forall_not_mem]
  intro l hl
  obtain ⟨held, beyond⟩ := once.mem_sdiff_iff.mp hl
  have absent : s.layer l = Layer.powerOn :=
    Table.get_of_canonical canonical fun small => beyond (List.mem_range.mpr small)
  exact (taken l).mp held (by rw [absent]; rfl)

/-- R118: one generator at a RIG RESET. -/
def State.resetGenerator (s : State) (g : Nat) : State := s.setGenerator g { s.generator g with on := true, count := 0 }

theorem resetGenerators_eq : s.resetGenerators = (List.range Config.blinkGenerators).foldl State.resetGenerator s := rfl

theorem resetGenerators_generator {g : Nat} (hg : g < 4) :
    s.resetGenerators.generator g = { s.generator g with on := true, count := 0 } := by
  have member : g ∈ List.range Config.blinkGenerators := List.mem_range.mpr hg
  rw [resetGenerators_eq, foldl_update (f := State.resetGenerator) (read := State.generator)
    (g := fun _ x => { x with on := true, count := 0 }) (fun u l k => generator_setGenerator u l k _) List.nodup_range,
    if_pos member]

/-- A state without its effects. -/
def State.sansEffects (s : State) : State := { s with effects := ⟨[]⟩ }

theorem resetGenerators_same : SameBut State.sansEffects s s.resetGenerators :=
  SameBut.foldl (blank := State.sansEffects) (f := State.resetGenerator) (fun _ _ => rfl) _ s

/-- A state without its triggers. -/
def State.sansTriggers (s : State) : State := { s with inputs.triggers := [] }

theorem clearFlags_same (ns : List Nat) : SameBut State.sansTriggers s (ns.foldl State.clearFlag s) :=
  SameBut.foldl (blank := State.sansTriggers) (f := State.clearFlag) (fun _ _ => rfl) ns s

theorem clearFlags_trigger (ns : List Nat) (once : ns.Nodup) (n : Nat) : (ns.foldl State.clearFlag s).trigger n =
    if n ∈ ns then { s.trigger n with pending := false } else s.trigger n :=
  foldl_update (f := State.clearFlag) (read := State.trigger) (g := fun _ x => { x with pending := false })
    (fun u l k => trigger_setTrigger u l k _) once s n

theorem resetMerge_merge : s.resetMerge.merge = ⟨0, .run, s.merge.douseLine, s.merge.douseLine⟩ := by
  rw [State.resetMerge, setDouseLatch_merge]

theorem notify_empty {s : State} (empty : s.link.notices = []) (n : Notice) :
    s.notify n = { s with link.notices := [n] } := by
  rw [State.notify, if_pos (by simp [empty, Config.noticeCapacity]), empty, List.nil_append]

theorem setDouseLatch_notices {s : State} (empty : s.link.notices = []) (v : Bool) (c : DouseCause) :
    (s.setDouseLatch v c).link.notices = if s.merge.douseLatch = v then [] else [.douse v s.merge.douseLine c] := by
  rw [State.setDouseLatch]
  split
  · exact empty
  · rw [notify_empty (s := { s with merge.douseLatch := v }) empty]

theorem setDouseLatch_lost {s : State} (empty : s.link.notices = []) (v : Bool) (c : DouseCause) :
    (s.setDouseLatch v c).link.lost = s.link.lost := by
  rw [State.setDouseLatch]
  split
  · rfl
  · rw [notify_empty (s := { s with merge.douseLatch := v }) empty]

/-- A state without its merge block and its notices. -/
def State.sansMergeNotices (s : State) : State :=
  { s with merge := ⟨0, .run, false, false⟩, link.notices := [], link.lost := false }

theorem notify_same (n : Notice) : SameBut State.sansMergeNotices s (s.notify n) := by
  rw [State.notify]
  split <;> rfl

theorem setDouseLatch_same (v : Bool) (c : DouseCause) : SameBut State.sansMergeNotices s (s.setDouseLatch v c) := by
  rw [State.setDouseLatch]
  split
  · rfl
  · exact notify_same { s with merge.douseLatch := v } _

theorem resetMerge_same : SameBut State.sansMergeNotices s s.resetMerge :=
  setDouseLatch_same { s with merge.mask := 0, merge.mode := .run } _ _

/-- R73, R175: a RIG RESET that changes the latch tells it. -/
theorem resetMerge_notices {s : State} (empty : s.link.notices = []) : s.resetMerge.link.notices =
    if s.merge.douseLatch = s.merge.douseLine then [] else [.douse s.merge.douseLine s.merge.douseLine .rigReset] :=
  setDouseLatch_notices (s := { s with merge.mask := 0, merge.mode := .run }) empty _ _

theorem resetMerge_lost {s : State} (empty : s.link.notices = []) : s.resetMerge.link.lost = s.link.lost :=
  setDouseLatch_lost (s := { s with merge.mask := 0, merge.mode := .run }) empty _ _

/-! ## The rig before its lines -/

/-- R175: what the owners but the lines and the supervision leave. -/
def State.quieted (s : State) : State :=
  s.clearNotices.clearLayers.resetMerge.resetGenerators.resetInputs.withZoneWrite false

/-- A state without what a RIG RESET's owners write before the lines. -/
def State.sansQuieted (s : State) : State :=
  { s with
    playback := ⟨[], [], 0⟩
    effects := ⟨[]⟩
    merge := ⟨0, .run, false, false⟩
    link.notices := []
    link.lost := false
    inputs := Inputs.powerOn
    zones.writeEnable := false }

/-- A state without its inputs. -/
def State.sansInputs (s : State) : State := { s with inputs := Inputs.powerOn }

theorem resetInputs_same : SameBut State.sansInputs s s.resetInputs := by
  have flags : SameBut State.sansInputs s (triggerIds.foldl State.clearFlag s) :=
    (clearFlags_same s triggerIds).read State.sansInputs fun _ => rfl
  rw [State.resetInputs]
  generalize triggerIds.foldl State.clearFlag s = u at flags ⊢
  exact flags

theorem quieted_same : SameBut State.sansQuieted s s.quieted := by
  have layers : SameBut State.sansQuieted s s.clearNotices.clearLayers :=
    SameBut.trans (u := s.clearNotices) rfl ((clearLayers_same s.clearNotices).weaken fun _ => rfl)
  have merge : SameBut State.sansQuieted s s.clearNotices.clearLayers.resetMerge :=
    layers.trans ((resetMerge_same _).weaken fun _ => rfl)
  have generators : SameBut State.sansQuieted s s.clearNotices.clearLayers.resetMerge.resetGenerators :=
    merge.trans ((resetGenerators_same _).weaken fun _ => rfl)
  have inputs := generators.trans ((resetInputs_same _).weaken fun _ => rfl)
  rw [State.quieted]
  generalize s.clearNotices.clearLayers.resetMerge.resetGenerators.resetInputs = u at inputs ⊢
  exact inputs

theorem clearNotices_notices : s.clearNotices.clearLayers.link.notices = [] :=
  (clearLayers_same s.clearNotices).read (·.link.notices) fun _ => rfl

/-- What reads neither the inputs, the zones nor the effects has its RIG RESET value once the merge block has. -/
theorem quieted_read {β : Type} (r : State → β) (zones : ∀ w b, r (State.withZoneWrite w b) = r w)
    (inputs : ∀ w, r (State.sansInputs w) = r w) (effects : ∀ w, r (State.sansEffects w) = r w) :
    r s.quieted = r s.clearNotices.clearLayers.resetMerge := by
  rw [State.quieted, zones, (resetInputs_same _).read r inputs, (resetGenerators_same _).read r effects]

theorem cleared_merge : s.clearNotices.clearLayers.merge = s.merge :=
  (clearLayers_same s.clearNotices).read State.merge fun _ => rfl

theorem quieted_notices : s.quieted.link.notices =
    if s.merge.douseLatch = s.merge.douseLine then [] else [.douse s.merge.douseLine s.merge.douseLine .rigReset] := by
  rw [quieted_read s (·.link.notices) (fun _ _ => rfl) (fun _ => rfl) fun _ => rfl,
    resetMerge_notices (clearNotices_notices s), cleared_merge]

theorem quieted_lost : s.quieted.link.lost = false := by
  rw [quieted_read s (·.link.lost) (fun _ _ => rfl) (fun _ => rfl) fun _ => rfl, resetMerge_lost (clearNotices_notices s)]
  exact (clearLayers_same s.clearNotices).read (·.link.lost) fun _ => rfl

theorem quieted_playback : s.quieted.playback = s.clearNotices.clearLayers.playback := by
  rw [quieted_read s State.playback (fun _ _ => rfl) (fun _ => rfl) fun _ => rfl]
  exact (resetMerge_same s.clearNotices.clearLayers).read State.playback fun _ => rfl

theorem quieted_merge : s.quieted.merge = ⟨0, .run, s.merge.douseLine, s.merge.douseLine⟩ := by
  rw [quieted_read s State.merge (fun _ _ => rfl) (fun _ => rfl) fun _ => rfl, resetMerge_merge, cleared_merge]

theorem quieted_generator {g : Nat} (hg : g < 4) : s.quieted.generator g = { s.generator g with on := true, count := 0 } := by
  have before : s.clearNotices.clearLayers.resetMerge.generator g = s.generator g := by
    rw [(resetMerge_same _).read (·.generator g) fun _ => rfl]
    exact (clearLayers_same s.clearNotices).read (·.generator g) fun _ => rfl
  have inputs := (resetInputs_same s.clearNotices.clearLayers.resetMerge.resetGenerators).read (·.generator g) fun _ => rfl
  have zones (u : State) : (u.withZoneWrite false).generator g = u.generator g := rfl
  rw [State.quieted, zones, inputs, resetGenerators_generator _ hg, before]

theorem resetInputs_inputs : s.resetInputs.inputs.beat = { s.inputs.beat with history := [] }
    ∧ s.resetInputs.inputs.timecode = s.inputs.timecode ∧ s.resetInputs.inputs.floor = 0
    ∧ ∀ n < 8, s.resetInputs.trigger n = { s.trigger n with pending := false } := by
  have flags := clearFlags_same s triggerIds
  have beat := flags.read (·.inputs.beat) fun _ => rfl
  have timecode := flags.read (·.inputs.timecode) fun _ => rfl
  have triggers : ∀ n < 8, (triggerIds.foldl State.clearFlag s).trigger n = { s.trigger n with pending := false } := fun n hn => by
    rw [clearFlags_trigger s triggerIds List.nodup_range, if_pos (show n ∈ triggerIds from List.mem_range.mpr hn)]
  rw [State.resetInputs]
  generalize triggerIds.foldl State.clearFlag s = u at beat timecode triggers ⊢
  exact ⟨by rw [← beat], timecode, rfl, triggers⟩

theorem quieted_inputs : s.quieted.inputs.beat = { s.inputs.beat with history := [] }
    ∧ s.quieted.inputs.timecode = s.inputs.timecode ∧ s.quieted.inputs.floor = 0
    ∧ ∀ n < 8, s.quieted.trigger n = { s.trigger n with pending := false } := by
  have before : s.clearNotices.clearLayers.resetMerge.resetGenerators.inputs = s.inputs := by
    rw [(resetGenerators_same _).read State.inputs fun _ => rfl, (resetMerge_same _).read State.inputs fun _ => rfl]
    exact (clearLayers_same s.clearNotices).read State.inputs fun _ => rfl
  have zones (u : State) : (u.withZoneWrite false).inputs = u.inputs := rfl
  obtain ⟨beat, timecode, floor, triggers⟩ := resetInputs_inputs s.clearNotices.clearLayers.resetMerge.resetGenerators
  have after : s.quieted.inputs = s.clearNotices.clearLayers.resetMerge.resetGenerators.resetInputs.inputs := by
    rw [State.quieted, zones]
  rw [before] at beat timecode
  rw [after]
  exact ⟨beat, timecode, floor, fun n hn => by rw [trigger_of_inputs after, triggers n hn, trigger_of_inputs before]⟩

theorem quieted_zones : s.quieted.zones = ⟨s.zones.zones, false⟩ := by
  have zones := (quieted_same s).read (·.zones.zones) fun _ => rfl
  have off (u : State) : (u.withZoneWrite false).zones = ⟨u.zones.zones, false⟩ := rfl
  rw [← zones, State.quieted, off]

/-! ## The lines -/

/-- R151: a line at a RIG RESET, before its decision. -/
def Line.abandoned (y : Line) : Line :=
  { y with turn := y.turn.abandon, queue := [], wait := 0, auditCursor := none }

theorem resetLine_line (l k : Nat) : (s.resetLine l).line k = if k = l then (s.line l).abandoned else s.line k := by
  rw [State.resetLine, line_of_lines (abortEntries_lines _ _), line_setLine]
  rfl

theorem resetLines_line {l : Nat} (hl : l < 16) : (lineIds.foldl State.resetLine s).line l = (s.line l).abandoned := by
  rw [foldl_update (f := State.resetLine) (read := State.line) (g := fun _ => Line.abandoned) resetLine_line nodup_lineIds,
    if_pos ((mem_lineIds l).mpr hl)]

theorem resetDecision_other (before : State) {l k : Nat} (apart : k ≠ l) :
    (State.resetDecision before s l).line k = s.line k := by
  rw [State.resetDecision]
  split
  · exact decideTurn_other s l k apart
  · rfl

/-- R151: the decisions of a RIG RESET: a line whose exchange ended turns to a refresh frame where one is due. -/
theorem resetDecisions_line (before : State) {l : Nat} (hl : l < 16) (empty : (s.line l).queue = []) :
    (((before.line l).turn.waiting = true ∧ (s.line l).refreshes (s.slotCount l)) →
      (lineIds.foldl (State.resetDecision before) s).line l = (s.line l).refreshed s l)
    ∧ (¬ ((before.line l).turn.waiting = true ∧ (s.line l).refreshes (s.slotCount l)) →
      (lineIds.foldl (State.resetDecision before) s).line l = s.line l) := by
  obtain ⟨visits, unvisited, visited⟩ :=
    foldl_visit (fun u j k => resetDecision_other u before) nodup_lineIds ((mem_lineIds l).mpr hl) s
  have same := SameBut.foldl (fun u j => resetDecision_same u before j) visits s
  have slots := same.read (State.slotCount · l) fun _ => rfl
  rw [visited, ← refreshed_of_same same, ← unvisited, ← slots, State.resetDecision]
  rw [← unvisited] at empty
  refine ⟨fun ⟨ended, due⟩ => ?_, fun rests => ?_⟩
  · rw [if_pos ended]
    exact decideTurn_refreshes empty due
  · split
    · next ended => rw [decideTurn_waits empty fun due => rests ⟨ended, due⟩]
    · rfl

/-! ## The whole reset -/

/-- R175: the rig before the decisions of the lines. -/
def State.stilled (s : State) : State := (lineIds.foldl State.resetLine s.quieted).resetSupervision

theorem rigReset_eq : s.rigReset = lineIds.foldl (State.resetDecision s) s.stilled := rfl

/-- A state without what the lines and the supervision write at a RIG RESET. -/
def State.sansStilled (s : State) : State :=
  { s with lines := ⟨[]⟩, link.replies := [], link.inFlight := [], supervision := ⟨[], [], 0, 0, 0⟩ }

theorem stilled_same : SameBut State.sansStilled s.quieted s.stilled := by
  have lines : SameBut State.sansStilled s.quieted (lineIds.foldl State.resetLine s.quieted) :=
    (SameBut.foldl resetLine_same lineIds s.quieted).weaken fun _ => rfl
  rw [State.stilled]
  generalize lineIds.foldl State.resetLine s.quieted = u at lines ⊢
  exact lines

theorem rigReset_decided : SameBut State.sansLines s.stilled s.rigReset :=
  SameBut.foldl (fun u l => resetDecision_same u s l) lineIds s.stilled

theorem rigReset_same : SameBut State.sansStilled s.quieted s.rigReset :=
  (stilled_same s).trans ((rigReset_decided s).weaken fun _ => rfl)

theorem stilled_supervision :
    s.stilled.supervision = { s.supervision with heads := [], rehomeQueue := [], homingCount := 0 } := by
  have kept : (lineIds.foldl State.resetLine s.quieted).supervision = s.supervision :=
    ((SameBut.foldl resetLine_same lineIds s.quieted).read State.supervision fun _ => rfl).trans
      ((quieted_same s).read State.supervision fun _ => rfl)
  rw [State.stilled, ← kept]
  rfl

theorem stilled_line {l : Nat} (hl : l < 16) : s.stilled.line l = (s.line l).abandoned := by
  have before : s.quieted.line l = s.line l := (quieted_same s).read (·.line l) fun _ => rfl
  have reset := resetLines_line s.quieted hl
  rw [before] at reset
  rw [State.stilled]
  generalize lineIds.foldl State.resetLine s.quieted = u at reset ⊢
  exact reset

theorem stilled_slotCount (l : Nat) : s.stilled.slotCount l = s.slotCount l :=
  ((stilled_same s).read (·.slotCount l) fun _ => rfl).trans ((quieted_same s).read (·.slotCount l) fun _ => rfl)

/-- R151: a line after a RIG RESET that its decision turned to a refresh frame. -/
theorem rigReset_line_refreshed {l : Nat} (hl : l < 16) (ended : (s.line l).turn.waiting = true)
    (due : (s.line l).abandoned.refreshes (s.slotCount l)) : s.rigReset.line l = (s.line l).abandoned.refreshed s.rigReset l := by
  have line := stilled_line s hl
  have decided := (resetDecisions_line s.stilled s hl (congrArg Line.queue line)).1 ⟨ended, by rwa [line, stilled_slotCount]⟩
  rw [line] at decided
  rw [rigReset_eq, decided, ← rigReset_eq, refreshed_of_same (rigReset_decided s)]

/-- R151: any other line after a RIG RESET. -/
theorem rigReset_line_abandoned {l : Nat} (hl : l < 16)
    (rests : ¬ ((s.line l).turn.waiting = true ∧ (s.line l).abandoned.refreshes (s.slotCount l))) :
    s.rigReset.line l = (s.line l).abandoned := by
  have line := stilled_line s hl
  have decided := (resetDecisions_line s.stilled s hl (congrArg Line.queue line)).2 (by rwa [line, stilled_slotCount])
  rw [rigReset_eq, decided, line]

theorem rigReset_line_fields {l : Nat} (hl : l < 16) : (s.rigReset.line l).queue = [] ∧ (s.rigReset.line l).wait = 0
    ∧ (s.rigReset.line l).auditCursor = none ∧ (s.rigReset.line l).settings = (s.line l).settings
    ∧ (s.rigReset.line l).auditTimer = (s.line l).auditTimer := by
  by_cases due : (s.line l).turn.waiting = true ∧ (s.line l).abandoned.refreshes (s.slotCount l)
  · rw [rigReset_line_refreshed s hl due.1 due.2]
    exact ⟨rfl, rfl, rfl, rfl, rfl⟩
  · rw [rigReset_line_abandoned s hl due]
    exact ⟨rfl, rfl, rfl, rfl, rfl⟩

theorem rigReset_turn_of_not_waiting {l : Nat} (hl : l < 16) (runs : (s.line l).turn.waiting = false) :
    (s.rigReset.line l).turn = (s.line l).turn.abandon := by
  rw [rigReset_line_abandoned s hl (by simp [runs])]
  rfl

/-- Settles O13: `quieted` and `stilled` say what the owners leave, and the decisions of the lines touch the lines alone. -/
theorem rigResetQuietsTheRig : Obligations.RigResetQuietsTheRig := by
  intro t tag s admits holds canonical
  let u := s.advance t
  have same := rigReset_same u
  have quiet := quieted_same u
  have playback : u.rigReset.playback = u.clearNotices.clearLayers.playback :=
    (same.read State.playback fun _ => rfl).trans (quieted_playback u)
  have inputs : u.rigReset.inputs = u.quieted.inputs := same.read State.inputs fun _ => rfl
  have zones : u.rigReset.zones = ⟨u.zones.zones, false⟩ := (same.read State.zones fun _ => rfl).trans (quieted_zones u)
  have supervision := ((rigReset_decided u).read State.supervision fun _ => rfl).trans (stilled_supervision u)
  obtain ⟨beat, timecode, floor, triggers⟩ := quieted_inputs u
  refine ⟨u.rigReset, request_reply s t tag 0x04#8 ownRigReset _ .ok _ admits rfl, fun l hl => ?_, ?_,
    (same.read State.merge fun _ => rfl).trans (quieted_merge u),
    (same.read (·.link.notices) fun _ => rfl).trans (quieted_notices u),
    (same.read (·.link.lost) fun _ => rfl).trans (quieted_lost u),
    fun g hg => (same.read (·.generator g) fun _ => rfl).trans (quieted_generator u hg),
    (congrArg Inputs.beat inputs).trans beat, (congrArg Inputs.timecode inputs).trans timecode,
    (congrArg Inputs.floor inputs).trans floor, fun n hn => (trigger_of_inputs inputs n).trans (triggers n hn),
    congrArg Zones.writeEnable zones, (congrArg Zones.zones zones).trans rfl, fun l hl => rigReset_line_fields u hl,
    fun l hl idle => ?_, fun l hl slots frame => ?_,
    fun l hl x exchange => ⟨fun sending => ?_, fun w window done => ?_, fun w window enabled due slots => ?_⟩,
    fun h => ?_, congrArg Supervision.rehomeQueue supervision, congrArg Supervision.homingCount supervision,
    (congrArg Supervision.homingLimit supervision).trans rfl, ?_, ?_, ?_, ?_, ?_⟩
  · exact (layer_of_playback playback l).trans (clearLayers_layer u.clearNotices hl)
  · exact (congrArg Playback.takeStack playback).trans (clearLayers_takeStack (s := u.clearNotices) holds canonical)
  · have turn : (u.line l).turn = .idle := idle
    rw [rigReset_turn_of_not_waiting u hl (by rw [turn]; rfl), turn]
    rfl
  · have turn : (u.line l).turn = .frame slots := frame
    rw [rigReset_turn_of_not_waiting u hl (by rw [turn]; rfl), turn]
    rfl
  · have turn : (u.line l).turn = .exchange x := exchange
    rw [rigReset_turn_of_not_waiting u hl (by simp [turn, Turn.waiting, sending]), turn]
    simp [Turn.abandon, sending]
  · have turn : (u.line l).turn = .exchange x := exchange
    rw [rigReset_line_abandoned u hl fun refreshes => ?_]
    · simp [Line.abandoned, turn, Turn.abandon, window]
    · obtain ⟨_, _, _, due, _⟩ := refreshes
      exact Bool.false_ne_true (done.symm.trans due)
  · have turn : (u.line l).turn = .exchange x := exchange
    have ended : (u.line l).abandoned.turn = .idle := by simp [Line.abandoned, turn, Turn.abandon, window]
    rw [rigReset_line_refreshed u hl (by simp [turn, Turn.waiting, window]) ⟨ended, enabled, due, slots⟩]
    exact refreshed_turn _ _ l
  · rw [State.watch, supervision]
    rfl
  · exact (same.read State.patch fun _ => rfl).trans (quiet.read State.patch fun _ => rfl)
  · exact (same.read State.cues fun _ => rfl).trans (quiet.read State.cues fun _ => rfl)
  · exact (same.read State.limiter fun _ => rfl).trans (quiet.read State.limiter fun _ => rfl)
  · exact (same.read State.store fun _ => rfl).trans (quiet.read State.store fun _ => rfl)
  · exact (same.read State.startUp fun _ => rfl).trans (quiet.read State.startUp fun _ => rfl)

end Sys2Proof.Machine
end

section
/-! SUPPORT. Lists that ascend by a key, and the personalities and cues kept in them (R2 to R5, R22 to R30). -/

namespace Sys2Proof.Machine

open Sys2Proof

/-! ## Elements put one after another into an ascending list -/

section
variable {α : Type} (key : α → Nat)

theorem mem_putBy_iff (x : α) {l : List α} (sorted : l.Pairwise (fun a b => key a < key b)) (e : α) :
    e ∈ putBy key x l ↔ e = x ∨ e ∈ l ∧ key e ≠ key x := by
  induction l with
  | nil => simp [putBy]
  | cons y ys ih =>
    obtain ⟨first, rest⟩ := List.pairwise_cons.mp sorted
    simp only [putBy]
    split
    · next before =>
      have apart : ∀ e ∈ y :: ys, key e ≠ key x := by
        intro e he
        rcases List.mem_cons.mp he with rfl | he
        · omega
        · have := first e he; omega
      rw [List.mem_cons]
      exact or_congr_right ⟨fun he => ⟨he, apart e he⟩, fun he => he.1⟩
    · split
      · next same =>
        have apart : ∀ e ∈ ys, key e ≠ key x := fun e he => by have := first e he; omega
        rw [List.mem_cons, List.mem_cons]
        refine or_congr_right ⟨fun he => ⟨.inr he, apart e he⟩, ?_⟩
        rintro ⟨rfl | he, other⟩
        · exact absurd same.symm other
        · exact he
      · next behind other =>
        rw [List.mem_cons, List.mem_cons, ih rest]
        constructor
        · rintro (rfl | rfl | ⟨he, apart⟩)
          · exact .inr ⟨.inl rfl, Ne.symm other⟩
          · exact .inl rfl
          · exact .inr ⟨.inr he, apart⟩
        · rintro (rfl | ⟨rfl | he, apart⟩)
          · exact .inr (.inl rfl)
          · exact .inl rfl
          · exact .inr (.inr ⟨he, apart⟩)

theorem find?_cons_key (x : α) (l : List α) (k : Nat) : (x :: l).find? (fun y => key y == k) =
    if k = key x then some x else l.find? (fun y => key y == k) := by
  by_cases h : key x = k
  · rw [if_pos h.symm]
    exact List.find?_cons_of_pos (p := fun y => key y == k) (beq_iff_eq.mpr h)
  · rw [if_neg (Ne.symm h)]
    exact List.find?_cons_of_neg (p := fun y => key y == k) (by simpa using h)

/-- What a list finds for a key after an element was put at its place. -/
theorem find?_putBy (x : α) (l : List α) (k : Nat) : (putBy key x l).find? (fun y => key y == k) =
    if k = key x then some x else l.find? (fun y => key y == k) := by
  induction l with
  | nil => exact find?_cons_key key x [] k
  | cons y ys ih =>
    simp only [putBy]
    split
    · exact find?_cons_key key x (y :: ys) k
    · split
      · next same =>
        rw [find?_cons_key, find?_cons_key, ← same]
        split <;> rfl
      · next other =>
        rw [find?_cons_key, find?_cons_key, ih]
        by_cases h : k = key x
        · have apart : k ≠ key y := h ▸ other
          rw [if_neg apart, if_pos h, if_pos h]
        · rw [if_neg h, if_neg h]

/-- Elements put one after another, each at its place. -/
def putAll (xs onto : List α) : List α := xs.foldl (fun u x => putBy key x u) onto

theorem putAll_sorted (xs : List α) {onto : List α} (sorted : onto.Pairwise (fun a b => key a < key b)) :
    (putAll key xs onto).Pairwise (fun a b => key a < key b) := by
  induction xs generalizing onto with
  | nil => exact sorted
  | cons x xs ih => exact ih (putBy_sorted key x onto sorted)

theorem mem_putAll {xs : List α} (once : (xs.map key).Nodup) {onto : List α}
    (sorted : onto.Pairwise (fun a b => key a < key b)) (e : α) :
    e ∈ putAll key xs onto ↔ e ∈ xs ∨ e ∈ onto ∧ ∀ x ∈ xs, key x ≠ key e := by
  induction xs generalizing onto with
  | nil => simp [putAll]
  | cons x xs ih =>
    obtain ⟨fresh, once⟩ := List.nodup_cons.mp once
    have later := ih once (putBy_sorted key x onto sorted)
    have new : ∀ y ∈ xs, key y ≠ key x := fun y hy same => fresh (List.mem_map.mpr ⟨y, hy, same⟩)
    rw [mem_putBy_iff key x sorted] at later
    rw [show putAll key (x :: xs) onto = putAll key xs (putBy key x onto) from rfl, later, List.mem_cons, List.forall_mem_cons]
    constructor
    · rintro (he | ⟨rfl | ⟨he, other⟩, apart⟩)
      · exact .inl (.inr he)
      · exact .inl (.inl rfl)
      · exact .inr ⟨he, other.symm, apart⟩
    · rintro ((rfl | he) | ⟨he, other, apart⟩)
      · exact .inr ⟨.inl rfl, new⟩
      · exact .inl he
      · exact .inr ⟨.inr ⟨he, other.symm⟩, apart⟩

theorem putAll_nil_perm {xs : List α} (once : (xs.map key).Nodup) : (putAll key xs []).Perm xs := by
  have sorted : (putAll key xs []).Pairwise (fun a b => key a < key b) := putAll_sorted key xs .nil
  refine (List.perm_ext_iff_of_nodup (sorted.imp fun less same => ?_) once.of_map).mpr fun e => ?_
  · exact absurd (same ▸ less) (lt_irrefl _)
  · rw [mem_putAll key once .nil]
    simp

end

/-! ## Personalities -/

theorem storedMap_eq (rs : List RoleReq) : storedMap rs = putAll RoleEntry.offset (rs.filterMap storedRole) [] := rfl

/-- R2, R5: what is stored of a role entry. -/
theorem storedRole_eq_some (r : RoleReq) (x : RoleEntry) : storedRole r = some x ↔
    ∃ (role : Role) (w : Width), r.role = some role ∧ (r.width = 8 ∧ w = .w8 ∨ r.width = 16 ∧ w = .w16)
      ∧ x = ⟨role, r.offset, w, if role = .control then clamp 0 (if r.width = 16 then 65535 else 255) r.fixed else 0⟩ := by
  have width (w : Width) : widthOf r.width = some w ↔ (r.width = 8 ∧ w = .w8 ∨ r.width = 16 ∧ w = .w16) := by
    rw [widthOf]
    split
    · next h => simp [h, eq_comm]
    · split
      · next h => simp [h, eq_comm]
      · next h8 h16 => simp [h8, h16]
  cases hr : r.role with
  | none => simp [storedRole, hr]
  | some role =>
    cases hw : widthOf r.width with
    | none => simp [storedRole, hr, ← width, hw]
    | some w => simp [storedRole, hr, ← width, hw, fixedMax, Config.full, eq_comm]

theorem storedRole_of_fits {r : RoleReq} (h : roleFits r = true) : ∃ x, storedRole r = some x := by
  simp only [roleFits, Bool.and_eq_true, Bool.or_eq_true, beq_iff_eq] at h
  obtain ⟨⟨⟨named, _⟩, width⟩, _⟩ := h
  obtain ⟨role, named⟩ := Option.isSome_iff_exists.mp named
  rcases width with w8 | w16
  · exact ⟨_, (storedRole_eq_some r _).mpr ⟨role, .w8, named, .inl ⟨w8, rfl⟩, rfl⟩⟩
  · exact ⟨_, (storedRole_eq_some r _).mpr ⟨role, .w16, named, .inr ⟨w16, rfl⟩, rfl⟩⟩

theorem storedRole_offset {r : RoleReq} {x : RoleEntry} (h : storedRole r = some x) : x.offset = r.offset := by
  obtain ⟨_, _, _, _, rfl⟩ := (storedRole_eq_some r x).mp h
  rfl

/-- R3: no two role entries of a map that fits start at the same offset. -/
theorem offsets_nodup {rs : List RoleReq} (h : (rs.flatMap roleSlots).Nodup) : (rs.map RoleReq.offset).Nodup := by
  have first (r : RoleReq) : r.offset ∈ roleSlots r := by rw [roleSlots]; split <;> simp
  refine List.pairwise_map.mpr ((List.nodup_flatMap.mp h).2.imp fun {a b} disjoint same => ?_)
  exact disjoint (first a) (same ▸ first b)

theorem filterMap_offsets {rs : List RoleReq} (fits : ∀ r ∈ rs, roleFits r = true) :
    (rs.filterMap storedRole).map RoleEntry.offset = rs.map RoleReq.offset := by
  induction rs with
  | nil => rfl
  | cons r rs ih =>
    obtain ⟨first, rest⟩ := List.forall_mem_cons.mp fits
    obtain ⟨x, stored⟩ := storedRole_of_fits first
    rw [List.filterMap_cons_some stored, List.map_cons, List.map_cons, ih rest, storedRole_offset stored]

theorem mapFits_of_structureFits {p : PersonalityReq} (h : structureFits p = true) :
    (∀ r ∈ p.roles, roleFits r = true) ∧ (p.roles.flatMap roleSlots).Nodup := by
  obtain ⟨sys, _, fits⟩ := (Option.any_eq_true _ _).mp h
  simp only [mapFits, Bool.and_eq_true, decide_eq_true_eq, List.all_eq_true] at fits
  obtain ⟨⟨⟨⟨⟨⟨⟨⟨⟨⟨_, fits⟩, once⟩, _⟩, _⟩, _⟩, _⟩, _⟩, _⟩, _⟩, _⟩ := fits
  exact ⟨fits, once⟩

/-- Settles O19: the stored map is its entries put at their places, whose offsets differ. -/
theorem definePersonalityStores : Obligations.DefinePersonalityStores := by
  intro t tag p sys fb s admits free id system feedback unused fits
  obtain ⟨roles, slots⟩ := mapFits_of_structureFits fits
  have once : ((p.roles.filterMap storedRole).map RoleEntry.offset).Nodup := by
    rw [filterMap_offsets roles]
    exact offsets_nodup slots
  have served : ownDefinePersonality p tag (s.advance t) = ((s.advance t).setPersonality p.id (storedPersonality p sys fb),
      .reply (okOrClamped (personalityClamps p)) (.footprint (footprint (storedPersonality p sys fb).channelMap))) := by
    have known : ¬ (Config.personalities ≤ p.id ∨ p.feedback = none) := by
      rw [not_or, feedback]
      exact ⟨id.not_ge, Option.some_ne_none fb⟩
    have busy : ¬ (s.advance t).storeBusy = true := by simp [free]
    have inUse : ¬ (s.advance t).personalityInUse p.id = true := by
      rw [show (s.advance t).personalityInUse p.id = s.personalityInUse p.id from rfl, unused]
      exact Bool.false_ne_true
    rw [ownDefinePersonality, if_neg busy, if_neg known, if_neg inUse, if_neg (by simp [fits]), system, feedback]
  refine ⟨storedPersonality p sys fb, request_reply s t tag 0x10#8 _ _ _ _ admits served, rfl, rfl, rfl, rfl, rfl, rfl, rfl, rfl,
    rfl, putAll_sorted _ _ .nil, ?_, fun x => ?_⟩
  · calc (storedMap p.roles).length = (p.roles.filterMap storedRole).length := (putAll_nil_perm _ once).length_eq
      _ = p.roles.length := by
        rw [← List.length_map RoleEntry.offset, filterMap_offsets roles, List.length_map]
  · show x ∈ storedMap p.roles ↔ _
    rw [storedMap_eq, (putAll_nil_perm _ once).mem_iff, List.mem_filterMap]
    exact exists_congr fun r => and_congr_right fun _ => storedRole_eq_some r x

/-! ## Groups and lists -/

/-- Settles O24, branch by branch. -/
theorem defineGroupAndCreateList : Obligations.DefineGroupAndCreateList := by
  refine ⟨fun t tag g marks s admits => ⟨fun busy => ?_, fun free bad => ?_, fun free good => ?_⟩,
    fun t tag n s admits => ⟨fun busy => ?_, fun free bad => ?_, fun free good taken => ?_, fun free good absent => ?_⟩⟩
  · exact request_reply s t tag 0x15#8 (ownDefineGroup g marks) _ _ _ admits (if_pos busy)
  · exact request_reply s t tag 0x15#8 (ownDefineGroup g marks) _ _ _ admits
      ((if_neg (by simp [free])).trans (if_pos bad))
  · exact request_reply s t tag 0x15#8 (ownDefineGroup g marks) _ _ _ admits
      ((if_neg (by simp [free])).trans (if_neg good.not_ge))
  · exact request_reply s t tag 0x20#8 (ownCreateList n) _ _ _ admits
      (by rw [ownCreateList, State.checkCreateList, if_pos (by simpa using busy)]; rfl)
  · exact request_reply s t tag 0x20#8 (ownCreateList n) _ _ _ admits
      (by rw [ownCreateList, State.checkCreateList, if_neg (by simp [free]), if_pos (show Config.cueLists ≤ n from bad)]; rfl)
  · have present : ((s.advance t).list n).isSome = true := Option.isSome_iff_ne_none.mpr taken
    exact request_reply s t tag 0x20#8 (ownCreateList n) _ _ _ admits
      (by rw [ownCreateList, State.checkCreateList, if_neg (by simp [free]), if_neg (show ¬ Config.cueLists ≤ n from good.not_ge),
        if_pos present]; rfl)
  · have missing : ¬ ((s.advance t).list n).isSome = true := by simp [absent]
    exact request_reply s t tag 0x20#8 (ownCreateList n) _ _ _ admits
      (by rw [ownCreateList, State.checkCreateList, if_neg (by simp [free]), if_neg (show ¬ Config.cueLists ≤ n from good.not_ge),
        if_neg missing]; rfl)

/-- R30: the assignment of one layer cleared. -/
def State.clearAssignment (s : State) (l : Nat) : State := s.setLayer l { s.layer l with settings.list := none }

theorem clearAssignments_eq (s : State) (ls : List Nat) : s.clearAssignments ls = ls.foldl State.clearAssignment s := rfl

theorem clearAssignments_layer (s : State) {ls : List Nat} (once : ls.Nodup) (l : Nat) : (s.clearAssignments ls).layer l =
    if l ∈ ls then { s.layer l with settings.list := none } else s.layer l := by
  rw [clearAssignments_eq]
  exact foldl_update (f := State.clearAssignment) (read := State.layer) (g := fun _ y => { y with settings.list := none })
    (fun u j k => layer_setLayer u j k _) once s l

/-- A state without its layers. -/
def State.sansLayers (s : State) : State := { s with playback.layers := [] }

theorem clearAssignments_same (s : State) (ls : List Nat) : SameBut State.sansLayers s (s.clearAssignments ls) :=
  SameBut.foldl (blank := State.sansLayers) (f := State.clearAssignment) (fun _ _ => rfl) ls s

theorem mem_assignedTo (s : State) (n l : Nat) : l ∈ s.assignedTo n ↔ l < 12 ∧ (s.layer l).settings.list = some n := by
  rw [State.assignedTo, List.mem_filter, beq_iff_eq, layerIds, List.mem_range]
  rfl

theorem nodup_assignedTo (s : State) (n : Nat) : (s.assignedTo n).Nodup := List.nodup_range.filter _

theorem cueList_mk {cl : CueList} {b : Bool} (h : cl.locked = b) (cs : List Cue) : { cl with cues := cs } = (⟨b, cs⟩ : CueList) := by
  rw [← h]

/-- Settles O25. -/
theorem listEditsTouchOneList : Obligations.ListEditsTouchOneList := by
  refine ⟨fun t tag n v cl s admits free hn list => ?_, fun t tag n number cl s admits free hn positive list held unlocked => ?_,
    fun t tag n cl s admits free hn list unlocked idle => ?_⟩
  all_goals have busy : ¬ (s.advance t).storeBusy = true := by simp [free]
  all_goals have list' : (s.advance t).list n = some cl := list
  · refine request_reply s t tag 0x21#8 (ownSetListLock n (some v)) _ _ _ admits ?_
    rw [ownSetListLock, if_neg busy]
    simp only [show ¬ Config.cueLists ≤ n from hn.not_ge, if_false, list']
    rfl
  · refine ⟨_, request_reply s t tag 0x24#8 (ownDeleteCue n number) _ _ _ admits ?_, rfl⟩
    have valid : ¬ (Config.cueLists ≤ n ∨ number = 0#16) := not_or.mpr ⟨hn.not_ge, positive⟩
    have present : ¬ (cl.cue number.toNat).isNone = true := by simpa [Option.isSome_iff_ne_none] using held
    rw [ownDeleteCue, if_neg busy, if_neg valid, list']
    simp only [if_neg present, unlocked, Bool.false_eq_true, if_false, cueList_mk unlocked]
    rfl
  · have still : ¬ ((s.advance t).assignedTo n).any (fun l => decide (((s.advance t).layer l).state ≠ .idle)) = true := by
      rw [List.any_eq_true]
      rintro ⟨l, assigned, taken⟩
      obtain ⟨hl, here⟩ := (mem_assignedTo _ n l).mp assigned
      exact of_decide_eq_true taken (idle l hl here)
    have same := clearAssignments_same ((s.advance t).setList n none) ((s.advance t).assignedTo n)
    refine ⟨((s.advance t).setList n none).clearAssignments ((s.advance t).assignedTo n),
      request_reply s t tag 0x25#8 (ownDeleteList n) _ _ _ admits ?_,
      (same.read (·.list n) fun _ => rfl).trans ?_, fun k apart => (same.read (·.list k) fun _ => rfl).trans ?_,
      fun l hl => ?_, same.read (·.playback.takeStack) fun _ => rfl, same.read State.patch fun _ => rfl,
      same.read State.merge fun _ => rfl, same.read State.limiter fun _ => rfl, same.read State.zones fun _ => rfl,
      same.read State.effects fun _ => rfl, same.read State.inputs fun _ => rfl, same.read State.lines fun _ => rfl,
      same.read State.supervision fun _ => rfl, same.read State.store fun _ => rfl, same.read State.link fun _ => rfl⟩
    · rw [ownDeleteList, if_neg busy, if_neg (show ¬ Config.cueLists ≤ n from hn.not_ge), list']
      simp only [unlocked, Bool.false_eq_true, if_false, if_neg still]
      rfl
    · rw [list_setList, if_pos rfl]
    · rw [list_setList, if_neg apart]
      rfl
    · rw [clearAssignments_layer _ (nodup_assignedTo _ n)]
      refine ite_congr (propext ((mem_assignedTo (s.advance t) n l).trans (and_iff_right hl))) (fun _ => rfl) fun _ => rfl

/-! ## Cues -/

theorem putEntries_eq (es : List EntryReq) (onto : List Entry) :
    putEntries es onto = putAll Entry.head (es.map storedEntry) onto := by
  rw [putAll, List.foldl_map]
  rfl

theorem map_storedEntry_head (es : List EntryReq) : (es.map storedEntry).map Entry.head = es.map EntryReq.head := by
  rw [List.map_map]
  rfl

theorem putEntries_sorted (es : List EntryReq) {onto : List Entry} (sorted : onto.Pairwise (fun a b => a.head < b.head)) :
    (putEntries es onto).Pairwise (fun a b => a.head < b.head) := by
  rw [putEntries_eq]
  exact putAll_sorted _ _ sorted

theorem mem_putEntries {es : List EntryReq} (once : (es.map EntryReq.head).Nodup) {onto : List Entry}
    (sorted : onto.Pairwise (fun a b => a.head < b.head)) (x : Entry) :
    x ∈ putEntries es onto ↔ (∃ e ∈ es, x = storedEntry e) ∨ x ∈ onto ∧ ∀ e ∈ es, e.head ≠ x.head := by
  rw [putEntries_eq, mem_putAll Entry.head (by rwa [map_storedEntry_head]) sorted, List.mem_map, List.forall_mem_map]
  simp only [eq_comm (a := x)]
  rfl

theorem cue_putCue (cl : CueList) (c : Cue) (n : Nat) : (cl.putCue c).cue n = if n = c.number then some c else cl.cue n :=
  find?_putBy Cue.number c cl.cues n

theorem not_entriesCollide {es : List EntryReq} (once : (es.map EntryReq.head).Nodup) : ¬ entriesCollide es = true := by
  simp [entriesCollide, once]

theorem not_cueTooLarge {s : State} {old : Option Cue} {n : Nat} (new : old = none → 1 ≤ s.freeCues ∧ n ≤ s.freeEntries)
    (stays : ∀ o, old = some o → n ≤ s.freeEntries + o.entries.length) : ¬ s.cueTooLarge old n = true := by
  cases old with
  | none =>
    obtain ⟨cues, entries⟩ := new rfl
    simp only [State.cueTooLarge, Bool.or_eq_true, decide_eq_true_eq]
    omega
  | some o =>
    have := stays o rfl
    simp only [State.cueTooLarge, decide_eq_true_eq]
    omega

/-- Settles O26: entries and cues are put at their places one after another. -/
theorem cuesAreStoredInOrder : Obligations.CuesAreStoredInOrder := by
  refine ⟨fun t tag c cl s admits free good once list unlocked sorted new stays => ?_,
    fun t tag n number es cl k s admits free good once list unlocked held sorted fits => ?_⟩
  all_goals have busy : ¬ (s.advance t).storeBusy = true := by simp [free]
  · have room : ¬ (s.advance t).cueTooLarge (cl.cue c.number.toNat) c.entries.length = true := not_cueTooLarge new stays
    have list' : (s.advance t).list c.list = some cl := list
    refine ⟨_, cl.putCue (storedCue c), request_reply s t tag 0x22#8 (ownStoreCue c) _ _ _ admits ?_, rfl, unlocked,
      putBy_sorted _ _ _ sorted, fun n other => ?_, storedCue c, ?_, rfl, rfl, rfl, rfl, rfl, rfl, rfl,
      putEntries_sorted _ .nil, fun x => ?_⟩
    · rw [ownStoreCue, if_neg busy, if_neg (by simp [good]), if_neg (not_entriesCollide once), list']
      simp only [unlocked, Bool.false_eq_true, if_false, if_neg room, State.storedReply, list_setList, if_true]
      rfl
    · exact (cue_putCue cl _ n).trans (if_neg other)
    · exact (cue_putCue cl _ _).trans (if_pos rfl)
    · exact (mem_putEntries once .nil x).trans (by simp)
  · have list' : (s.advance t).list n = some cl := list
    have room : ¬ (s.advance t).freeEntries < k.newHeads es := fits.not_gt
    refine ⟨_, { k with entries := putEntries es k.entries },
      request_reply s t tag 0x23#8 (ownAppendEntries n number es false) _ _ _ admits ?_, rfl, rfl,
      putEntries_sorted es sorted, mem_putEntries once sorted⟩
    rw [ownAppendEntries, if_neg busy, if_neg (by simp [good]), if_neg (not_entriesCollide once), list']
    simp only [held, unlocked, Bool.false_eq_true, if_false, if_neg room]
    rfl

end Sys2Proof.Machine
end

section
/-! SUPPORT. What the operations of the lines and of supervision leave of a line, and the patch (R6 to R15). -/

namespace Sys2Proof.Machine

open Sys2Proof

/-! ## A line after its decisions -/

/-- What decisions made in states that build the same refresh frame as `s` leave of a line `y` whose queue was not added to. -/
structure Line.Decided (s : State) (l : Nat) (y z : Line) : Prop where
  settings : z.settings = y.settings
  auditTimer : z.auditTimer = y.auditTimer
  auditCursor : z.auditCursor = y.auditCursor
  queue : z.queue <:+ y.queue
  turn : y.turn ≠ .idle → z.turn = y.turn
  snapshot : z.snapshot = y.snapshot ∨ z.snapshot = s.frameSnapshot l

namespace Line.Decided

variable {s u : State} {l : Nat} {y z x : Line}

theorem refl (y : Line) : Line.Decided s l y y := ⟨rfl, rfl, rfl, List.suffix_rfl, fun _ => rfl, .inl rfl⟩

theorem trans (h : Line.Decided s l y z) (k : Line.Decided s l z x) : Line.Decided s l y x where
  settings := k.settings.trans h.settings
  auditTimer := k.auditTimer.trans h.auditTimer
  auditCursor := k.auditCursor.trans h.auditCursor
  queue := k.queue.trans h.queue
  turn busy := (k.turn (by rwa [h.turn busy])).trans (h.turn busy)
  snapshot := k.snapshot.elim (fun same => h.snapshot.imp same.trans same.trans) .inr

theorem of_same (h : Line.Decided u l y z) (same : SameBut State.sansLines s u) : Line.Decided s l y z :=
  { h with snapshot := h.snapshot.imp_right fun built => built.trans (same.read (·.frameSnapshot l) fun _ => rfl) }

end Line.Decided

variable (s : State)

theorem grant_nothing_of_busy {y : Line} (busy : y.turn ≠ .idle) (now slots : Nat) : y.grant now slots = .nothing :=
  if_pos (.inl busy)

theorem decideTurn_decided (l : Nat) : Line.Decided s l (s.line l) ((s.decideTurn l).line l) := by
  by_cases busy : (s.line l).turn ≠ .idle
  · rw [decideTurn_busy s l (.inl busy)]
    exact .refl _
  · rw [State.decideTurn]
    split
    · exact .refl _
    · rw [startRefresh_line]
      exact ⟨rfl, rfl, rfl, List.suffix_rfl, fun now => absurd now busy, .inr rfl⟩
    · rw [startRefresh_line, line_setLine, if_pos rfl]
      exact ⟨rfl, rfl, rfl, List.suffix_rfl, fun now => absurd now busy, .inr rfl⟩
    · next e rest granted =>
      have queue : (s.line l).queue = e :: rest := grant_query granted
      rw [State.startExchange, line_setLine, if_pos rfl]
      refine ⟨rfl, rfl, rfl, ?_, fun now => absurd now busy, .inl rfl⟩
      rw [queue]
      exact List.suffix_cons e rest

theorem slotCountChanged_same (l before : Nat) : SameBut State.sansLines s (s.slotCountChanged l before) := by
  rw [State.slotCountChanged]
  split
  · rfl
  · split
    · exact (SameBut.trans (u := s.setLine l _) rfl (decideTurn_same _ l))
    · rfl

theorem slotCountChanged_other (l before k : Nat) (apart : k ≠ l) : (s.slotCountChanged l before).line k = s.line k := by
  rw [State.slotCountChanged]
  split
  · rw [line_setLine, if_neg apart]
  · split
    · rw [decideTurn_other _ l k apart, line_setLine, if_neg apart]
    · rfl

theorem slotCountChanged_decided (l before : Nat) : Line.Decided s l (s.line l) ((s.slotCountChanged l before).line l) := by
  rw [State.slotCountChanged]
  split
  · rw [line_setLine, if_pos rfl]
    exact ⟨rfl, rfl, rfl, List.suffix_rfl, fun _ => rfl, .inl rfl⟩
  · split
    · have decided := decideTurn_decided (s.setLine l { s.line l with refreshDue := true }) l
      rw [line_setLine, if_pos rfl] at decided
      have marked : Line.Decided s l (s.line l) { s.line l with refreshDue := true } :=
        ⟨rfl, rfl, rfl, List.suffix_rfl, fun _ => rfl, .inl rfl⟩
      exact marked.trans (decided.of_same rfl)
    · exact .refl _

/-- R142: a refresh frame names the patched heads of its line. -/
theorem patched_of_mem_frameSnapshot {l : Nat} {e : LastSent} (h : e ∈ s.frameSnapshot l) : s.patched e.head = true := by
  obtain ⟨k, on, sent⟩ := List.mem_filterMap.mp h
  have head : e.head = k := by
    split at sent
    · obtain rfl := Option.some.inj sent; rfl
    · cases sent
  exact head ▸ (mem_patchedHeads s k).mp (List.mem_filter.mp on).1

/-! ## The dispatch (R160) -/

/-- A state without what the dispatch writes. -/
def State.sansDispatch (s : State) : State :=
  { s with lines := ⟨[]⟩, supervision.heads := [], supervision.rehomeQueue := [], supervision.homingCount := 0 }

/-- R160: a head whose HOME entry was accepted. -/
def State.markSent (s : State) (h : Nat) : State :=
  { (s.setWatch h { s.watch h with stage := .sent }).leaveRehome h with
    supervision.homingCount := s.supervision.homingCount + 1 }

/-- R160: a visit of the walk does nothing, or sends the head's entry. -/
theorem dispatchHead_cases (h : Nat) : s.dispatchHead h = s ∨ ∃ p, s.placement h = some p ∧ (s.line p.line).accepts = true ∧
    s.dispatchHead h = State.markSent ((s.setLine p.line { s.line p.line with
      queue := (s.line p.line).queue ++ [homeQuery h] }).decideTurn p.line) h := by
  rw [State.dispatchHead]
  split
  · split
    · exact .inl rfl
    · next p place =>
      rw [addQuery_eq]
      by_cases room : (s.line p.line).accepts = true
      · rw [if_pos room]
        exact .inr ⟨p, place, room, rfl⟩
      · rw [if_neg room]
        exact .inl rfl
  · exact .inl rfl

/-- What visits of the heads of `q` leave. -/
structure Dispatches (q : List Nat) (s u : State) : Prop where
  same : SameBut State.sansDispatch s u
  watch : ∀ h ∉ q, u.watch h = s.watch h
  waiting : u.supervision.rehomeQueue.Sublist s.supervision.rehomeQueue
  turn : ∀ l, (s.line l).turn ≠ .idle → (u.line l).turn = (s.line l).turn
  queue : ∀ l, ∀ e ∈ (u.line l).queue, e ∈ (s.line l).queue ∨ e.head ∈ q
  snapshot : ∀ l, (u.line l).snapshot = (s.line l).snapshot ∨ (u.line l).snapshot = s.frameSnapshot l
  disabled : ∀ l, (s.line l).settings.enabled = false → u.line l = s.line l

namespace Dispatches

variable {s} {q : List Nat} {u v : State}

theorem refl (s : State) : Dispatches q s s :=
  ⟨.refl s, fun _ _ => rfl, List.Sublist.refl _, fun _ _ => rfl, fun _ _ he => .inl he, fun _ => .inl rfl, fun _ _ => rfl⟩

theorem trans (a : Dispatches q s u) (b : Dispatches q u v) : Dispatches q s v where
  same := a.same.trans b.same
  watch h hq := (b.watch h hq).trans (a.watch h hq)
  waiting := b.waiting.trans a.waiting
  turn l busy := (b.turn l (by rwa [a.turn l busy])).trans (a.turn l busy)
  queue l e he := (b.queue l e he).elim (a.queue l e) .inr
  snapshot l := by
    have built : u.frameSnapshot l = s.frameSnapshot l := a.same.read (·.frameSnapshot l) fun _ => rfl
    exact (b.snapshot l).elim (fun same => (a.snapshot l).imp same.trans same.trans) fun new => .inr (new.trans built)
  disabled l off := (b.disabled l (by rwa [a.disabled l off])).trans (a.disabled l off)

end Dispatches

theorem sublist_markSent (h : Nat) : (s.markSent h).supervision.rehomeQueue.Sublist s.supervision.rehomeQueue := List.erase_sublist

theorem markSent_line (h l : Nat) : (s.markSent h).line l = s.line l := rfl

theorem markSent_watch (h k : Nat) : (s.markSent h).watch k = if k = h then { s.watch h with stage := .sent } else s.watch k :=
  watch_setWatch s h k _

theorem enabled_of_accepts {y : Line} (h : y.accepts = true) : y.settings.enabled = true := by
  simp only [Line.accepts, Bool.and_eq_true] at h
  exact h.1

theorem markSent_same (h : Nat) : SameBut State.sansDispatch s (s.markSent h) := rfl

theorem dispatchHead_dispatches {q : List Nat} {h : Nat} (hq : h ∈ q) : Dispatches q s (s.dispatchHead h) := by
  rcases dispatchHead_cases s h with same | ⟨p, _, accepts, sent⟩
  · rw [same]; exact .refl s
  · let y : Line := { s.line p.line with queue := (s.line p.line).queue ++ [homeQuery h] }
    have decided := decideTurn_decided (s.setLine p.line y) p.line
    rw [line_setLine, if_pos rfl] at decided
    have own : (s.dispatchHead h).line p.line = ((s.setLine p.line y).decideTurn p.line).line p.line := by
      rw [sent, markSent_line]
    have other (l : Nat) (apart : l ≠ p.line) : (s.dispatchHead h).line l = s.line l := by
      rw [sent, markSent_line, decideTurn_other _ _ _ apart, line_setLine, if_neg apart]
    have supervision : ((s.setLine p.line y).decideTurn p.line).supervision = s.supervision :=
      (decideTurn_same _ p.line).read State.supervision fun _ => rfl
    refine ⟨?_, fun k hk => ?_, ?_, fun l busy => ?_, fun l e he => ?_, fun l => ?_, fun l off => ?_⟩
    · rw [sent]
      have asked : SameBut State.sansDispatch s (s.setLine p.line y) := rfl
      exact (asked.trans ((decideTurn_same _ p.line).weaken fun _ => rfl)).trans (markSent_same _ h)
    · rw [sent, markSent_watch, if_neg fun e : k = h => hk (e ▸ hq), State.watch, supervision]
      rfl
    · rw [sent, ← supervision]
      exact sublist_markSent _ h
    · by_cases e : l = p.line
      · subst e; rw [own]; exact decided.turn busy
      · rw [other l e]
    · by_cases on : l = p.line
      · subst on
        rw [own] at he
        rcases List.mem_append.mp (decided.queue.subset he) with old | new
        · exact .inl old
        · exact .inr (by rw [List.mem_singleton.mp new]; exact hq)
      · rw [other l on] at he
        exact .inl he
    · by_cases e : l = p.line
      · subst e; rw [own]; exact decided.snapshot
      · rw [other l e]; exact .inl rfl
    · refine other l fun e => ?_
      rw [e, enabled_of_accepts accepts] at off
      exact Bool.false_ne_true off.symm

theorem foldl_dispatchHead_dispatches {q : List Nat} {hs : List Nat} (sub : hs ⊆ q) :
    Dispatches q s (hs.foldl State.dispatchHead s) := by
  induction hs generalizing s with
  | nil => exact .refl s
  | cons h hs ih =>
    obtain ⟨head, tail⟩ := List.cons_subset.mp sub
    exact (dispatchHead_dispatches s head).trans (ih _ tail)

theorem dispatch_dispatches : Dispatches s.supervision.rehomeQueue s s.dispatch :=
  foldl_dispatchHead_dispatches s fun _ => id

end Sys2Proof.Machine
end

section
/-! SUPPORT. The patch: a head patched, re-patched and unpatched, and its settings (R6 to R15). -/

namespace Sys2Proof.Machine

open Sys2Proof

variable (s : State)

/-! ## The traffic of a head on a line -/

/-- R143: a line whose queue lost the entries of a head. -/
def Line.without (y : Line) (h : Nat) : Line :=
  { y with
    queue := y.queue.filter (fun e => decide (e.head ≠ h))
    wait := if y.queue.filter (fun e => decide (e.head ≠ h)) = [] then 0 else y.wait }

/-- R146: a line whose exchange for a head is discarded, unless it already was. -/
def Line.discarding (y : Line) (h : Nat) (how : QueryKind → Discard) : Line :=
  match y.turn with
  | .exchange x =>
    if x.entry.head = h ∧ x.discard = .kept then { y with turn := .exchange { x with discard := how x.entry.kind } } else y
  | .idle => y
  | .frame _ => y

/-- R10: a line whose snapshot lost a head. -/
def Line.forgetting (y : Line) (h : Nat) : Line :=
  { y with snapshot := y.snapshot.filter (fun e => decide (e.head ≠ h)) }

theorem bne_eq_decide_ne (a b : Nat) : (a != b) = decide (a ≠ b) := by
  rw [Bool.eq_iff_iff, bne_iff_ne, decide_eq_true_iff]

theorem forgetSent_line (l h k : Nat) :
    (s.forgetSent l h).line k = if k = l then (s.line l).forgetting h else s.line k := by
  rw [State.forgetSent, line_setLine]
  simp only [bne_eq_decide_ne, Line.forgetting]

theorem dropQueries_same (l : Nat) (p : QueryEntry → Bool) : SameBut State.sansLinesReplies s (s.dropQueries l p) :=
  abortEntries_same (s.setLine l _) _

theorem dropQueries_head_line (l h k : Nat) : (s.dropQueries l (fun e => e.head == h)).line k =
    if k = l then (s.line l).without h else s.line k := by
  have filtered : ∀ e : QueryEntry, (!(e.head == h)) = decide (e.head ≠ h) := fun e => bne_eq_decide_ne e.head h
  rw [State.dropQueries, line_of_lines (abortEntries_lines _ _), line_setLine]
  simp only [filtered, Line.without, List.isEmpty_iff]

theorem discardExchange_same (l h : Nat) (how : QueryKind → Discard) :
    SameBut State.sansLines s (s.discardExchange l h how) := by
  rw [State.discardExchange]
  split
  · split <;> rfl
  · rfl
  · rfl

theorem discardExchange_line (l h : Nat) (how : QueryKind → Discard) (k : Nat) :
    (s.discardExchange l h how).line k = if k = l then (s.line l).discarding h how else s.line k := by
  have unchanged : s.line k = if k = l then s.line l else s.line k := by split <;> simp_all
  rw [State.discardExchange, Line.discarding]
  cases turn : (s.line l).turn with
  | exchange x =>
    by_cases own : x.entry.head = h ∧ x.discard = .kept
    · simp only [if_pos own, line_setLine]
    · simp only [if_neg own]
      exact unchanged
  | idle => exact unchanged
  | frame slots => exact unchanged

theorem discarding_fields (y : Line) (h : Nat) (how : QueryKind → Discard) :
    y.discarding h how = { y with turn := (y.discarding h how).turn } := by
  rw [Line.discarding]
  split
  · split <;> rfl
  · rfl
  · rfl

theorem discarding_turn_kept {y : Line} {x : Exchange} (turn : y.turn = .exchange x) {h : Nat}
    (other : x.entry.head ≠ h ∨ x.discard ≠ .kept) (how : QueryKind → Discard) : (y.discarding h how).turn = .exchange x := by
  have keeps : ¬ (x.entry.head = h ∧ x.discard = .kept) := not_and_or.mpr other
  simp only [Line.discarding, turn, if_neg keeps]

theorem discarding_turn_discarded {y : Line} {x : Exchange} (turn : y.turn = .exchange x) {h : Nat} (head : x.entry.head = h)
    (kept : x.discard = .kept) (how : QueryKind → Discard) :
    (y.discarding h how).turn = .exchange { x with discard := how x.entry.kind } := by
  simp only [Line.discarding, turn, head, kept, and_self, if_true]

/-! ## Patching (R7 to R10) -/

theorem patchFieldsBad_eq_false {h p l b : Nat} (hh : h < 512) (hp : p < 32) (hl : l < 16) (low : 1 ≤ b) (high : b ≤ 512) :
    patchFieldsBad h p l b = false := by
  simp only [patchFieldsBad, Bool.or_eq_false_iff, decide_eq_false_iff_not, Nat.not_le, Nat.not_lt]
  exact ⟨⟨⟨⟨hh, hp⟩, hl⟩, low⟩, high⟩

section
variable {s} {h p l b : Nat} {q : Personality} (tag : Byte) (free : s.storeBusy = false)
  (fields : patchFieldsBad h p l b = false) (defined : s.personality p = some q)
  (within : b + footprint q.channelMap - 1 ≤ 512)
include free fields defined within

theorem ownPatchHead_fresh (unpatched : s.placement h = none)
    (clear : s.overlaps h l b (b + footprint q.channelMap - 1) = false) : ownPatchHead h p l b tag s =
      accept (s.patchFresh h ⟨p, l, b⟩ q) ((s.patchFresh h ⟨p, l, b⟩ q).patchReply ⟨p, l, b⟩ q none false) := by
  simp only [ownPatchHead, free, fields, defined, unpatched, claimEnd, clear, Bool.false_eq_true, if_false,
    if_neg (Nat.not_lt.mpr within)]

theorem ownPatchHead_same (placed : s.placement h = some ⟨p, l, b⟩) : ownPatchHead h p l b tag s =
    accept s (s.patchReply ⟨p, l, b⟩ q (some l) false) := by
  simp only [ownPatchHead, free, fields, defined, placed, claimEnd, Bool.false_eq_true, if_false, if_true,
    if_neg (Nat.not_lt.mpr within)]

theorem ownPatchHead_moved {old : Placement} (placed : s.placement h = some old) (moved : old ≠ ⟨p, l, b⟩)
    (still : s.rehomeInProgress h = false) (clear : s.overlaps h l b (b + footprint q.channelMap - 1) = false) :
    ownPatchHead h p l b tag s = accept (s.repatch h old ⟨p, l, b⟩ q)
      ((s.repatch h old ⟨p, l, b⟩ q).patchReply ⟨p, l, b⟩ q (some old.line) (s.keptClamped h old ⟨p, l, b⟩ q)) := by
  simp only [ownPatchHead, free, fields, defined, placed, claimEnd, clear, still, Bool.false_eq_true, if_false,
    if_neg (Nat.not_lt.mpr within), if_neg moved]

end

/-- R7: the records of a head that is patched, before its line follows. -/
def State.seeded (s : State) (h : Nat) (p : Placement) (q : Personality) : State :=
  ((s.setHeadPatch h (HeadPatch.seeded p q)).setMotion h
    (some (Motion.fresh (HeadPatch.seeded p q).homePan (HeadPatch.seeded p q).homeTilt))).setWatch h Watch.unpatched

theorem patchFresh_eq (h : Nat) (p : Placement) (q : Personality) :
    s.patchFresh h p q = (s.seeded h p q).slotCountChanged p.line (s.slotCount p.line) := rfl

theorem slotCountChanged_emptied {l : Nat} (h : s.slotCount l = 0) (before : Nat) : s.slotCountChanged l before =
    s.setLine l { s.line l with refreshTimer := none, refreshDue := false } := if_pos h

theorem slotCountChanged_risen {l : Nat} (h : 0 < s.slotCount l) (enabled : (s.line l).settings.enabled = true) :
    s.slotCountChanged l 0 = (s.setLine l { s.line l with refreshDue := true }).decideTurn l :=
  (if_neg h.ne').trans (if_pos ⟨rfl, enabled⟩)

theorem slotCountChanged_unchanged {l before : Nat} (h : 0 < s.slotCount l)
    (stays : 0 < before ∨ (s.line l).settings.enabled = false) : s.slotCountChanged l before = s := by
  refine (if_neg h.ne').trans (if_neg fun ⟨zero, enabled⟩ => ?_)
  rcases stays with positive | disabled
  · omega
  · exact Bool.false_ne_true (disabled.symm.trans enabled)

/-- Settles O20. -/
theorem patchHeadSeedsTheHead : Obligations.PatchHeadSeedsTheHead := by
  refine ⟨fun t tag h p l b q s admits free hh hp hl low high defined within unpatched clear => ?_,
    fun s l before => ⟨fun h => slotCountChanged_emptied s h before, ?_, slotCountChanged_unchanged s⟩,
    fun t tag h p l b q s admits free hh hp hl low high defined within placed => ?_⟩
  · let u := s.advance t
    have same : SameBut State.sansLines (u.seeded h ⟨p, l, b⟩ q) (u.patchFresh h ⟨p, l, b⟩ q) := slotCountChanged_same _ _ _
    have served := ownPatchHead_fresh (s := u) tag free (patchFieldsBad_eq_false hh hp hl low high) defined within unpatched clear
    refine ⟨u.patchFresh h ⟨p, l, b⟩ q, request_reply s t tag 0x11#8 _ _ .ok _ admits served,
      (same.read (·.headPatch h) fun _ => rfl).trans ?_, (same.read (·.motion h) fun _ => rfl).trans ?_,
      (same.read (·.watch h) fun _ => rfl).trans ?_, fun k apart => ⟨(same.read (·.headPatch k) fun _ => rfl).trans ?_,
        (same.read (·.motion k) fun _ => rfl).trans ?_, (same.read (·.watch k) fun _ => rfl).trans ?_⟩,
      fun k apart => slotCountChanged_other _ _ _ k apart, same.read (·.patch.personalities) fun _ => rfl,
      same.read (·.patch.groups) fun _ => rfl, ⟨u.seeded h ⟨p, l, b⟩ q, fun _ => rfl, rfl⟩,
      same.read State.cues fun _ => rfl, same.read State.playback fun _ => rfl, same.read State.merge fun _ => rfl,
      same.read State.zones fun _ => rfl, same.read State.effects fun _ => rfl, same.read State.inputs fun _ => rfl,
      same.read State.store fun _ => rfl, same.read State.link fun _ => rfl⟩
    · exact (headPatch_setHeadPatch u h h _).trans (if_pos rfl)
    · exact (motion_setMotion _ h h _).trans (if_pos rfl)
    · exact (watch_setWatch _ h h _).trans (if_pos rfl)
    · exact (headPatch_setHeadPatch u h k _).trans (if_neg apart)
    · exact (motion_setMotion _ h k _).trans (if_neg apart)
    · exact (watch_setWatch _ h k _).trans (if_neg apart)
  · rintro risen rfl enabled
    exact slotCountChanged_risen s risen enabled
  · have served := ownPatchHead_same (s := s.advance t) tag free (patchFieldsBad_eq_false hh hp hl low high) defined within placed
    rw [State.patchReply, Option.filter_some_neg (by simp)] at served
    exact request_reply s t tag 0x11#8 _ _ .ok _ admits served

/-! ## Re-patching (R10) -/

/-- R10: the records of a head that is re-patched, before the lines follow. -/
def State.reseated (s : State) (h : Nat) (old p : Placement) (q : Personality) : State :=
  ((s.setHeadPatch h ((s.headPatch h).moved old p q)).setMotion h
    ((s.motion h).map (Motion.rebase q ((s.headPatch h).moved old p q).maxSpeed))).setWatch h
      { s.watch h with strikes := 0, misses := 0 }

/-- R10: the state of a re-patch before the lines follow their slot counts. -/
def State.vacated (s : State) (h : Nat) (old p : Placement) (q : Personality) : State :=
  ((s.reseated h old p q).forgetSent old.line h).dropTraffic h old p

/-- R10: the old line of a head that is re-patched. -/
def Line.vacated (y : Line) (h : Nat) (old p : Placement) : Line :=
  if old.line = p.line ∧ old.base = p.base then y.forgetting h
  else ((y.forgetting h).without h).discarding h (fun _ => .repatched)

theorem repatch_of_same_line {old p : Placement} (h : Nat) (q : Personality) (line : old.line = p.line) :
    s.repatch h old p q = (s.vacated h old p q).slotCountChanged old.line (s.slotCount old.line) := by
  have follow : State.slotCountsChanged s (s.vacated h old p q) [p.line] =
      (s.vacated h old p q).slotCountChanged p.line (s.slotCount p.line) := rfl
  rw [State.repatch, if_pos line]
  exact follow.trans (by rw [← line])

theorem repatch_of_other_line {old p : Placement} (h : Nat) (q : Personality) (line : old.line ≠ p.line) :
    s.repatch h old p q = ((s.vacated h old p q).slotCountChanged old.line (s.slotCount old.line)).slotCountChanged p.line
      (s.slotCount p.line) := by
  rw [State.repatch, if_neg line]
  rfl

theorem vacated_same (h : Nat) (old p : Placement) (q : Personality) :
    SameBut State.sansLinesReplies (s.reseated h old p q) (s.vacated h old p q) := by
  have forgot : SameBut State.sansLinesReplies (s.reseated h old p q) ((s.reseated h old p q).forgetSent old.line h) := rfl
  rw [State.vacated, State.dropTraffic]
  split
  · exact forgot
  · exact forgot.trans ((dropQueries_same _ _ _).trans ((discardExchange_same _ _ _ _).weaken fun _ => rfl))

theorem repatch_same (h : Nat) (old p : Placement) (q : Personality) :
    SameBut State.sansLinesReplies (s.reseated h old p q) (s.repatch h old p q) := by
  by_cases line : old.line = p.line
  · rw [repatch_of_same_line s h q line]
    exact (vacated_same s h old p q).trans ((slotCountChanged_same _ _ _).weaken fun _ => rfl)
  · rw [repatch_of_other_line s h q line]
    exact ((vacated_same s h old p q).trans ((slotCountChanged_same _ _ _).weaken fun _ => rfl)).trans
      ((slotCountChanged_same _ _ _).weaken fun _ => rfl)

theorem vacated_line (h : Nat) (old p : Placement) (q : Personality) (k : Nat) : (s.vacated h old p q).line k =
    if k = old.line then (s.line old.line).vacated h old p else s.line k := by
  have before (j : Nat) : (s.reseated h old p q).line j = s.line j := rfl
  rw [State.vacated, State.dropTraffic, Line.vacated]
  split
  · rw [forgetSent_line, before, before]
  · rw [discardExchange_line, dropQueries_head_line, dropQueries_head_line, forgetSent_line, forgetSent_line, before, before]
    split <;> simp

theorem repatch_old_line (h : Nat) (old p : Placement) (q : Personality) : (s.repatch h old p q).line old.line =
    ((s.vacated h old p q).slotCountChanged old.line (s.slotCount old.line)).line old.line := by
  by_cases line : old.line = p.line
  · rw [repatch_of_same_line s h q line]
  · rw [repatch_of_other_line s h q line, slotCountChanged_other _ _ _ _ line]

theorem repatch_old_decided (h : Nat) (old p : Placement) (q : Personality) :
    Line.Decided (s.vacated h old p q) old.line ((s.line old.line).vacated h old p) ((s.repatch h old p q).line old.line) := by
  have decided := slotCountChanged_decided (s.vacated h old p q) old.line (s.slotCount old.line)
  rwa [vacated_line, if_pos rfl, ← repatch_old_line] at decided

theorem vacated_of_same_place (y : Line) (h : Nat) {old p : Placement} (same : old.line = p.line ∧ old.base = p.base) :
    y.vacated h old p = y.forgetting h := if_pos same

theorem vacated_of_other_place (y : Line) (h : Nat) {old p : Placement} (other : old.line ≠ p.line ∨ old.base ≠ p.base) :
    y.vacated h old p = ((y.forgetting h).without h).discarding h (fun _ => .repatched) :=
  if_neg (not_and_or.mpr other)

theorem vacated_fields (y : Line) (h : Nat) (old p : Placement) :
    y.vacated h old p = { y with
      turn := (y.vacated h old p).turn, queue := (y.vacated h old p).queue, wait := (y.vacated h old p).wait,
      snapshot := (y.vacated h old p).snapshot }
    ∧ (y.vacated h old p).snapshot = y.snapshot.filter (fun e => decide (e.head ≠ h)) := by
  rw [Line.vacated]
  split
  · exact ⟨rfl, rfl⟩
  · rw [discarding_fields]
    exact ⟨rfl, rfl⟩

theorem vacated_other_queue (y : Line) (h : Nat) {old p : Placement} (other : old.line ≠ p.line ∨ old.base ≠ p.base) :
    (y.vacated h old p).queue = y.queue.filter (fun e => decide (e.head ≠ h))
      ∧ (y.vacated h old p).wait = if (y.vacated h old p).queue = [] then 0 else y.wait := by
  rw [vacated_of_other_place y h other, discarding_fields]
  exact ⟨rfl, rfl⟩

theorem rebase_position (range speed : Nat) (x : Axis) : (x.rebase range speed).position = min x.position range := by
  rw [Axis.rebase]
  split
  · next h => exact (min_eq_right h.le).symm
  · next h => exact (min_eq_left (Nat.le_of_not_lt h)).symm

theorem rebase_stops {range : Nat} {x : Axis} (h : range < x.position) (speed : Nat) : (x.rebase range speed).velocity = 0 := by
  rw [Axis.rebase, if_pos h]

theorem rebase_cuts {range : Nat} {x : Axis} (h : x.position ≤ range) (speed : Nat) :
    (x.rebase range speed).velocity = cutVelocity speed x.velocity := by
  rw [Axis.rebase, if_neg (Nat.not_lt.mpr h)]

theorem patchReply_moved (p : Placement) (q : Personality) (old : Nat) (kept : Bool) : s.patchReply p q (some old) kept =
    .patched (footprint q.channelMap) (s.slotCount p.line) (if old = p.line then none else some (s.slotCount old)) kept := by
  rw [State.patchReply]
  by_cases h : old = p.line
  · rw [if_pos h, Option.filter_some_neg (by simp [h])]
    rfl
  · rw [if_neg h, Option.filter_some_pos (by simpa using h)]
    rfl

/-- Settles O21: the records are `reseated`, the old line `vacated`, and then the lines follow. -/
theorem repatchKeepsTheShowPlace : Obligations.RepatchKeepsTheShowPlace := by
  intro t tag h p l b old q m s admits free hh hp hl low high defined within placed moved still clear motion
  let u := s.advance t
  let new : Placement := ⟨p, l, b⟩
  have same := repatch_same u h old new q
  have served := ownPatchHead_moved (s := u) tag free (patchFieldsBad_eq_false hh hp hl low high) defined within placed moved
    still clear
  rw [patchReply_moved] at served
  have record : (u.repatch h old new q).headPatch h = (s.headPatch h).moved old new q :=
    (same.read (·.headPatch h) fun _ => rfl).trans ((headPatch_setHeadPatch u h h _).trans (if_pos rfl))
  have stepped : (u.repatch h old new q).motion h = some (m.rebase q ((u.repatch h old new q).headPatch h).maxSpeed) := by
    refine (same.read (·.motion h) fun _ => rfl).trans ((motion_setMotion _ h h _).trans ?_)
    rw [if_pos rfl, show u.motion h = some m from motion, record]
    rfl
  have decided := repatch_old_decided u h old new q
  have turn (x : Exchange) (exchange : (s.line old.line).turn = .exchange x) : ((s.line old.line).forgetting h).turn = .exchange x :=
    exchange
  refine ⟨u.repatch h old new q, request_reply s t tag 0x11#8 _ _ .ok _ admits served, ?_, fun kept => ?_, fun changed => ?_,
    ⟨_, stepped, rfl, rebase_position _ _ _, rebase_position _ _ _, fun out => rebase_stops out _, fun inside => rebase_cuts inside _,
      fun out => rebase_stops out _, fun inside => rebase_cuts inside _⟩, ?_, fun other e he => ?_, ?_,
    fun x exchange => ⟨fun other head kept => ?_, fun stays => ?_⟩, fun k apart => ⟨?_, ?_, ?_⟩, same.read State.cues fun _ => rfl,
    same.read State.playback fun _ => rfl, same.read State.merge fun _ => rfl, same.read State.zones fun _ => rfl,
    same.read State.effects fun _ => rfl, same.read State.inputs fun _ => rfl, same.read State.store fun _ => rfl⟩
  · rw [State.placement, record, moved_placement]
  · rw [record, HeadPatch.moved, if_pos kept]
  · rw [record, HeadPatch.moved, if_neg changed]
    rfl
  · exact (same.read (·.watch h) fun _ => rfl).trans ((watch_setWatch _ h h _).trans (if_pos rfl))
  · have held := decided.queue.subset he
    rw [(vacated_other_queue _ h other).1, List.mem_filter, decide_eq_true_iff] at held
    exact held.2
  · have fields := vacated_fields (s.line old.line) h old new
    refine ⟨u.vacated h old new q, _, (s.line old.line).vacated h old new, (vacated_line u h old new q old.line).trans (if_pos rfl),
      fun k apart => (vacated_line u h old new q k).trans (if_neg apart), fields.1, fields.2, fun place => ?_,
      fun other => vacated_other_queue _ h other, rfl, fun line => repatch_of_same_line u h q line,
      fun line => repatch_of_other_line u h q line⟩
    rw [vacated_of_same_place _ h place]
    exact ⟨rfl, rfl⟩
  · have discarded : ((s.line old.line).vacated h old new).turn = .exchange { x with discard := .repatched } := by
      rw [vacated_of_other_place _ h other]
      exact discarding_turn_discarded (y := ((s.line old.line).forgetting h).without h) (turn x exchange) head kept _
    rw [decided.turn (by rw [show u.line old.line = s.line old.line from rfl, discarded]; exact nofun), ← discarded]
    rfl
  · have kept : ((s.line old.line).vacated h old new).turn = .exchange x := by
      by_cases place : old.line = l ∧ old.base = b
      · rw [vacated_of_same_place _ h place]
        exact turn x exchange
      · rw [vacated_of_other_place _ h (not_and_or.mp place)]
        exact discarding_turn_kept (y := ((s.line old.line).forgetting h).without h) (turn x exchange)
          (stays.resolve_left place) _
    rw [decided.turn (by rw [show u.line old.line = s.line old.line from rfl, kept]; exact nofun), ← kept]
    rfl
  · exact (same.read (·.headPatch k) fun _ => rfl).trans ((headPatch_setHeadPatch u h k _).trans (if_neg apart))
  · exact (same.read (·.motion k) fun _ => rfl).trans ((motion_setMotion _ h k _).trans (if_neg apart))
  · exact (same.read (·.watch k) fun _ => rfl).trans ((watch_setWatch _ h k _).trans (if_neg apart))

end Sys2Proof.Machine
end

section
/-! SUPPORT. The patch: a head unpatched, with what every owner drops (R13 to R15), and its settings and limits (R11, R12). -/

namespace Sys2Proof.Machine

open Sys2Proof

variable (s : State)

/-! ## Settings and limits -/

/-- Settles O23. -/
theorem setHeadAndLimits : Obligations.SetHeadAndLimits := by
  refine ⟨fun t tag r m q s admits free marks head personality => ?_, fun t tag h speed accel m s admits free head patched motion => ?_⟩
  · refine request_reply s t tag 0x13#8 (ownSetHead r) _ _ _ admits ?_
    have busy : ¬ (s.advance t).storeBusy = true := by simp [free]
    have known : (s.advance t).personalityOf r.head = some q := personality
    rw [ownSetHead, if_neg busy]
    simp only [marks, show ¬ Config.heads ≤ r.head from head.not_ge, if_false, known]
    rfl
  · refine request_reply s t tag 0x14#8 (ownSetHeadLimits h speed accel) _ _ _ admits ?_
    have busy : ¬ (s.advance t).storeBusy = true := by simp [free]
    have moving : (s.advance t).motion h = some m := motion
    rw [ownSetHeadLimits, if_neg busy, if_neg (show ¬ Config.heads ≤ h from head.not_ge), if_neg (by simp [patched]),
      State.withLimits, moving]
    rfl

/-! ## Unpatching -/

/-- R14: one layer without the slots of a head. -/
def State.dropLayerSlots (h : Nat) (s : State) (l : Nat) : State :=
  s.setLayer l { s.layer l with slots := (s.layer l).slots.filter (fun x => x.head != h) }

theorem dropSlots_eq (h : Nat) : s.dropSlots h = layerIds.foldl (State.dropLayerSlots h) s := rfl

theorem dropSlots_layer (h : Nat) {l : Nat} (hl : l < 12) : (s.dropSlots h).layer l =
    { s.layer l with slots := (s.layer l).slots.filter (fun x => x.head != h) } := by
  rw [dropSlots_eq, foldl_update (ks := layerIds) (f := State.dropLayerSlots h) (read := State.layer)
    (g := fun _ y => { y with slots := y.slots.filter (fun x => x.head != h) }) (fun u j k => layer_setLayer u j k _)
    List.nodup_range, if_pos (show l ∈ layerIds from List.mem_range.mpr hl)]

theorem dropSlots_same (h : Nat) : SameBut State.sansLayers s (s.dropSlots h) :=
  SameBut.foldl (blank := State.sansLayers) (f := State.dropLayerSlots h) (fun _ _ => rfl) layerIds s

theorem moveCondition_supervision (h : Nat) (w : Watch) (c : ConditionCause) :
    (s.moveCondition h w c).supervision = (s.setWatch h w).supervision := by
  rw [State.moveCondition]
  split
  · rfl
  · exact (notify_fields (s.setWatch h w) _).2.2.2.2.2.2.2.2.2.2.2.2.1

theorem moveCondition_same (h : Nat) (w : Watch) (c : ConditionCause) :
    SameBut State.sansLinesLinkWatch s (s.moveCondition h w c) := by
  rw [State.moveCondition]
  split
  · rfl
  · rw [State.notify]
    split <;> rfl

theorem watch_of_supervision {s u : State} (h : u.supervision = s.supervision) (k : Nat) : u.watch k = s.watch k := by
  rw [State.watch, h]
  rfl

/-- R164: what a move of a condition leaves of supervision. -/
theorem moveCondition_supervises (h : Nat) (w : Watch) (c : ConditionCause) :
    (s.moveCondition h w c).supervision.rehomeQueue = s.supervision.rehomeQueue
    ∧ (s.moveCondition h w c).supervision.homingCount = s.supervision.homingCount
    ∧ (s.moveCondition h w c).supervision.homingLimit = s.supervision.homingLimit
    ∧ ∀ k, (s.moveCondition h w c).watch k = if k = h then w else s.watch k := by
  have moved := moveCondition_supervision s h w c
  exact ⟨(congrArg Supervision.rehomeQueue moved).trans rfl, (congrArg Supervision.homingCount moved).trans rfl,
    (congrArg Supervision.homingLimit moved).trans rfl,
    fun k => (watch_of_supervision moved k).trans (watch_setWatch s h k w)⟩

/-- R13, R15: the line of a head that is unpatched. -/
def Line.withdrawn (y : Line) (h : Nat) : Line :=
  ((y.without h).discarding h (fun k => .unpatched (k == .home))).forgetting h

/-- R14, R15: what the layers, the line and supervision drop for a head. -/
def State.dropped (s : State) (h l : Nat) : State := (s.dropSlots h).dropWatch l h

/-- R13: a head leaves the snapshot of its line, the patch and the limiter. -/
def State.unseat (s : State) (h l : Nat) : State :=
  ((s.forgetSent l h).setHeadPatch h HeadPatch.unpatched).setMotion h none

/-- R13 to R15: an UNPATCH HEAD before the slot count is followed. -/
def State.withdrawn (s : State) (h l : Nat) : State := (s.dropped h l).unseat h l

/-- R139: an UNPATCH HEAD before the dispatch. -/
def State.withdrawnLine (s : State) (h l : Nat) : State := (s.withdrawn h l).slotCountChanged l (s.slotCount l)

theorem unpatch_eq (h l : Nat) :
    s.unpatch h l = if s.unpatchReleases l h = 0 then s.withdrawnLine h l else (s.withdrawnLine h l).dispatch := rfl

theorem dropWatch_same (l h : Nat) : SameBut State.sansLinesLinkWatch s (s.dropWatch l h) := by
  have dropped := (dropQueries_same s l (fun e => e.head == h)).weaken (wider := State.sansLinesLinkWatch) fun _ => rfl
  have discarded := dropped.trans ((discardExchange_same _ l h (fun k => .unpatched (k == .home))).weaken fun _ => rfl)
  exact SameBut.trans (discarded.trans (SameBut.trans (u := State.leaveRehome _ h) rfl (moveCondition_same _ h _ _))) rfl

/-- R15: the line's part of an UNPATCH HEAD, before supervision's. -/
def State.dropTrafficOf (s : State) (l h : Nat) : State :=
  (s.dropQueries l (fun e => e.head == h)).discardExchange l h (fun k => .unpatched (k == .home))

theorem dropWatch_eq (l h : Nat) : s.dropWatch l h =
    (((s.dropTrafficOf l h).leaveRehome h).moveCondition h Watch.unpatched .unpatch).lowerHoming (s.unpatchReleases l h) := rfl

theorem dropWatch_line (l h k : Nat) : (s.dropWatch l h).line k =
    if k = l then ((s.line l).without h).discarding h (fun k => .unpatched (k == .home)) else s.line k := by
  have lines : (s.dropWatch l h).lines = (s.dropTrafficOf l h).lines := by
    rw [dropWatch_eq]
    simp only [lowerHoming_fields, moveCondition_fields, leaveRehome_fields]
  rw [line_of_lines lines, State.dropTrafficOf, discardExchange_line, dropQueries_head_line, dropQueries_head_line]
  split <;> simp

theorem dropWatch_supervises (l h : Nat) :
    (s.dropWatch l h).supervision.rehomeQueue = s.supervision.rehomeQueue.erase h
    ∧ (s.dropWatch l h).supervision.homingCount = s.supervision.homingCount - s.unpatchReleases l h
    ∧ ∀ k, (s.dropWatch l h).watch k = if k = h then Watch.unpatched else s.watch k := by
  have kept : (s.dropTrafficOf l h).supervision = s.supervision :=
    ((discardExchange_same _ l h _).read State.supervision fun _ => rfl).trans
      ((dropQueries_same s l _).read State.supervision fun _ => rfl)
  rw [dropWatch_eq]
  generalize s.dropTrafficOf l h = u at kept ⊢
  obtain ⟨queue, count, _, watch⟩ := moveCondition_supervises (u.leaveRehome h) h Watch.unpatched .unpatch
  refine ⟨?_, ?_, fun k => ?_⟩
  · rw [(lowerHoming_supervision _ _).1, queue, ← kept]; rfl
  · rw [(lowerHoming_supervision _ _).2.1, count, ← kept]; rfl
  · rw [(lowerHoming_supervision _ _).2.2.2, watch, ← watch_of_supervision kept]; rfl

/-! ### The records of the head -/

/-- A state without what an UNPATCH HEAD writes. -/
def State.sansWithdrawn (s : State) : State :=
  { s.sansLinesLinkWatch with playback.layers := [], patch.heads := [], limiter.heads := [] }

theorem unseat_same (h l : Nat) : SameBut State.sansWithdrawn s (s.unseat h l) := rfl

theorem unseat_line (h l k : Nat) : (s.unseat h l).line k = if k = l then (s.line l).forgetting h else s.line k :=
  forgetSent_line s l h k

theorem unseat_headPatch (h l k : Nat) : (s.unseat h l).headPatch k = if k = h then HeadPatch.unpatched else s.headPatch k :=
  headPatch_setHeadPatch (s.forgetSent l h) h k _

theorem unseat_motion (h l k : Nat) : (s.unseat h l).motion k = if k = h then none else s.motion k :=
  motion_setMotion ((s.forgetSent l h).setHeadPatch h HeadPatch.unpatched) h k none

theorem unseat_supervision (h l : Nat) : (s.unseat h l).supervision = s.supervision := rfl

theorem unseat_playback (h l : Nat) : (s.unseat h l).playback = s.playback := rfl

/-! ### What every owner drops -/

theorem dropped_line (h l k : Nat) : (s.dropped h l).line k =
    if k = l then ((s.line l).without h).discarding h (fun k => .unpatched (k == .home)) else s.line k := by
  have before (j : Nat) : (s.dropSlots h).line j = s.line j := (dropSlots_same s h).read (·.line j) fun _ => rfl
  rw [State.dropped, dropWatch_line, before, before]

theorem dropped_supervises (h l : Nat) :
    (s.dropped h l).supervision.rehomeQueue = s.supervision.rehomeQueue.erase h
    ∧ (s.dropped h l).supervision.homingCount = s.supervision.homingCount - s.unpatchReleases l h
    ∧ ∀ k, (s.dropped h l).watch k = if k = h then Watch.unpatched else s.watch k := by
  have supervision : (s.dropSlots h).supervision = s.supervision :=
    (dropSlots_same s h).read State.supervision fun _ => rfl
  have releases : (s.dropSlots h).unpatchReleases l h = s.unpatchReleases l h :=
    (dropSlots_same s h).read (·.unpatchReleases l h) fun _ => rfl
  obtain ⟨queue, count, watch⟩ := dropWatch_supervises (s.dropSlots h) l h
  rw [State.dropped, queue, count, releases, supervision]
  exact ⟨rfl, rfl, fun k => by rw [watch, watch_of_supervision supervision]⟩

theorem dropped_same (h l : Nat) : SameBut State.sansLinesLinkWatch (s.dropSlots h) (s.dropped h l) := dropWatch_same _ l h

theorem dropped_headPatch (h l k : Nat) : (s.dropped h l).headPatch k = s.headPatch k := by
  rw [(dropped_same s h l).read (·.headPatch k) fun _ => rfl]
  exact (dropSlots_same s h).read (·.headPatch k) fun _ => rfl

theorem dropped_motion (h l k : Nat) : (s.dropped h l).motion k = s.motion k := by
  rw [(dropped_same s h l).read (·.motion k) fun _ => rfl]
  exact (dropSlots_same s h).read (·.motion k) fun _ => rfl

/-! ### The head withdrawn -/

theorem withdrawn_line (h l k : Nat) :
    (s.withdrawn h l).line k = if k = l then (s.line l).withdrawn h else s.line k := by
  rw [State.withdrawn, unseat_line, dropped_line, dropped_line]
  split <;> simp [Line.withdrawn]

theorem withdrawn_supervises (h l : Nat) :
    (s.withdrawn h l).supervision.rehomeQueue = s.supervision.rehomeQueue.erase h
    ∧ (s.withdrawn h l).supervision.homingCount = s.supervision.homingCount - s.unpatchReleases l h
    ∧ ∀ k, (s.withdrawn h l).watch k = if k = h then Watch.unpatched else s.watch k := by
  have kept : (s.withdrawn h l).supervision = (s.dropped h l).supervision := unseat_supervision _ h l
  obtain ⟨queue, count, watch⟩ := dropped_supervises s h l
  rw [kept]
  exact ⟨queue, count, fun k => (watch_of_supervision kept k).trans (watch k)⟩

theorem withdrawn_same (h l : Nat) : SameBut State.sansWithdrawn s (s.withdrawn h l) := by
  have slots : SameBut State.sansWithdrawn s (s.dropSlots h) := (dropSlots_same s h).weaken fun _ => rfl
  exact (slots.trans ((dropped_same s h l).weaken fun _ => rfl)).trans (unseat_same _ h l)

theorem withdrawn_headPatch (h l k : Nat) :
    (s.withdrawn h l).headPatch k = if k = h then HeadPatch.unpatched else s.headPatch k := by
  rw [State.withdrawn, unseat_headPatch, dropped_headPatch]

theorem withdrawn_motion (h l k : Nat) : (s.withdrawn h l).motion k = if k = h then none else s.motion k := by
  rw [State.withdrawn, unseat_motion, dropped_motion]

theorem withdrawn_playback (h l : Nat) : (s.withdrawn h l).playback = (s.dropSlots h).playback := by
  rw [State.withdrawn, unseat_playback, (dropped_same s h l).read State.playback fun _ => rfl]

/-- What the dispatch, run or not, leaves of an UNPATCH HEAD. -/
theorem unpatch_dispatches (h l : Nat) :
    Dispatches (s.withdrawnLine h l).supervision.rehomeQueue (s.withdrawnLine h l) (s.unpatch h l) := by
  rw [unpatch_eq]
  split
  · exact .refl _
  · exact dispatch_dispatches _

theorem withdrawn_fields (y : Line) (h : Nat) :
    y.withdrawn h = { y with
      turn := (y.withdrawn h).turn, queue := (y.withdrawn h).queue, wait := (y.withdrawn h).wait,
      snapshot := (y.withdrawn h).snapshot }
    ∧ (y.withdrawn h).queue = y.queue.filter (fun e => decide (e.head ≠ h))
    ∧ (y.withdrawn h).wait = (if (y.withdrawn h).queue = [] then 0 else y.wait)
    ∧ (y.withdrawn h).snapshot = y.snapshot.filter (fun e => decide (e.head ≠ h)) := by
  rw [Line.withdrawn, discarding_fields]
  exact ⟨rfl, rfl, rfl, rfl⟩

theorem unpatchReleases_eq (h l : Nat) : s.unpatchReleases l h =
    ((s.line l).queue.filter (fun e => decide (e.head = h ∧ e.kind = .home))).length
      + (if (s.watch h).condition = .homing then 1 else 0) := by
  rw [State.unpatchReleases, homeCount, State.entriesFor, List.filter_filter]
  congr 3
  funext e
  rw [Bool.eq_iff_iff, Bool.and_eq_true, beq_iff_eq, beq_iff_eq, decide_eq_true_iff, and_comm]

theorem ownUnpatchHead_eq {s : State} {h : Nat} {p : Placement} (tag : Byte) (free : s.storeBusy = false) (hh : h < 512)
    (placed : s.placement h = some p) : ownUnpatchHead h tag s = accept (s.unpatch h p.line) (.unpatched (s.slotsOf h)
      (s.entriesFor p.line h).length (consoleCount (s.entriesFor p.line h))) := by
  simp only [ownUnpatchHead, free, placed, Bool.false_eq_true, if_false, if_neg (show ¬ Config.heads ≤ h from hh.not_ge)]

/-! ### The head once its line and the dispatch have followed -/

theorem withdrawnLine_same (h l : Nat) : SameBut State.sansLines (s.withdrawn h l) (s.withdrawnLine h l) :=
  slotCountChanged_same _ _ _

theorem unpatch_same (h l : Nat) : SameBut State.sansDispatch (s.withdrawn h l) (s.unpatch h l) :=
  ((withdrawnLine_same s h l).weaken fun _ => rfl).trans (unpatch_dispatches s h l).same

theorem withdrawnLine_supervision (h l : Nat) : (s.withdrawnLine h l).supervision = (s.withdrawn h l).supervision :=
  (withdrawnLine_same s h l).read State.supervision fun _ => rfl

theorem withdrawnLine_decided (h l : Nat) :
    Line.Decided (s.withdrawn h l) l ((s.line l).withdrawn h) ((s.withdrawnLine h l).line l) := by
  have decided := slotCountChanged_decided (s.withdrawn h l) l (s.slotCount l)
  rwa [withdrawn_line, if_pos rfl] at decided

/-- R13: the head does not wait for a re-home. -/
theorem withdrawnLine_left {s : State} (once : s.supervision.rehomeQueue.Nodup) (h l : Nat) :
    h ∉ (s.withdrawnLine h l).supervision.rehomeQueue := by
  rw [withdrawnLine_supervision, (withdrawn_supervises s h l).1]
  exact once.not_mem_erase

theorem unpatch_watch {s : State} (once : s.supervision.rehomeQueue.Nodup) (h l : Nat) :
    (s.unpatch h l).watch h = Watch.unpatched := by
  rw [(unpatch_dispatches s h l).watch h (withdrawnLine_left once h l), watch_of_supervision (withdrawnLine_supervision s h l),
    (withdrawn_supervises s h l).2.2, if_pos rfl]

theorem unpatch_queue {s : State} (once : s.supervision.rehomeQueue.Nodup) (h l : Nat) :
    ∀ e ∈ ((s.unpatch h l).line l).queue, e.head ≠ h := by
  intro e he
  rcases (unpatch_dispatches s h l).queue l e he with old | new
  · have held := (withdrawnLine_decided s h l).queue.subset old
    rw [(withdrawn_fields _ h).2.1, List.mem_filter, decide_eq_true_iff] at held
    exact held.2
  · intro own
    rw [own] at new
    exact withdrawnLine_left once h l new

theorem not_mem_frameSnapshot_withdrawn (h l : Nat) : ∀ e ∈ (s.withdrawn h l).frameSnapshot l, e.head ≠ h := by
  intro e he own
  have patched := patched_of_mem_frameSnapshot _ he
  rw [own, State.patched, State.placement, withdrawn_headPatch, if_pos rfl] at patched
  exact Bool.false_ne_true patched

theorem unpatch_snapshot (h l : Nat) : ∀ e ∈ ((s.unpatch h l).line l).snapshot, e.head ≠ h := by
  have followed : ∀ e ∈ ((s.withdrawnLine h l).line l).snapshot, e.head ≠ h := by
    intro e he
    rcases (withdrawnLine_decided s h l).snapshot with old | new
    · rw [old, (withdrawn_fields _ h).2.2.2, List.mem_filter, decide_eq_true_iff] at he
      exact he.2
    · rw [new] at he
      exact not_mem_frameSnapshot_withdrawn s h l e he
  intro e he
  rcases (unpatch_dispatches s h l).snapshot l with old | new
  · rw [old] at he
    exact followed e he
  · rw [new, (withdrawnLine_same s h l).read (·.frameSnapshot l) fun _ => rfl] at he
    exact not_mem_frameSnapshot_withdrawn s h l e he

theorem unpatch_turn {h l : Nat} {x : Exchange} (turn : ((s.line l).withdrawn h).turn = .exchange x) :
    ((s.unpatch h l).line l).turn = .exchange x := by
  have followed := (withdrawnLine_decided s h l).turn (by rw [turn]; exact nofun)
  rw [(unpatch_dispatches s h l).turn l (by rw [followed, turn]; exact nofun), followed, turn]

theorem unpatch_playback (h l : Nat) : (s.unpatch h l).playback = (s.dropSlots h).playback :=
  ((unpatch_same s h l).read State.playback fun _ => rfl).trans (withdrawn_playback s h l)

/-- Settles O22: `withdrawn` says what the owners drop; the line and the dispatch then ask for nothing of the head. -/
theorem unpatchHeadClearsEveryOwner : Obligations.UnpatchHeadClearsEveryOwner := by
  intro t tag h p s admits free hh placed once
  let u := s.advance t
  have served := ownUnpatchHead_eq (s := u) tag free hh placed
  have same := unpatch_same u h p.line
  have owners := withdrawn_same u h p.line
  obtain ⟨queue, count, watch⟩ := withdrawn_supervises u h p.line
  obtain ⟨lineFields, lineQueue, lineWait, lineSnapshot⟩ := withdrawn_fields (s.line p.line) h
  refine ⟨u.unpatch h p.line, request_reply s t tag 0x12#8 _ _ .ok _ admits served,
    (same.read (·.headPatch h) fun _ => rfl).trans ((withdrawn_headPatch u h p.line h).trans (if_pos rfl)),
    (same.read (·.motion h) fun _ => rfl).trans ((withdrawn_motion u h p.line h).trans (if_pos rfl)),
    unpatch_watch (s := u) once h p.line,
    fun waits => withdrawnLine_left (s := u) once h p.line ((unpatch_dispatches u h p.line).waiting.subset waits),
    fun l hl => (layer_of_playback (unpatch_playback u h p.line) l).trans (dropSlots_layer u h hl), ?_,
    unpatch_queue (s := u) once h p.line, unpatch_snapshot u h p.line,
    fun x exchange => ⟨fun head kept => unpatch_turn u ?_, fun stays => unpatch_turn u ?_⟩, ?_,
    fun k apart => ⟨(same.read (·.headPatch k) fun _ => rfl).trans ((withdrawn_headPatch u h p.line k).trans (if_neg apart)),
      (same.read (·.motion k) fun _ => rfl).trans ((withdrawn_motion u h p.line k).trans (if_neg apart))⟩,
    (same.read (·.patch.groups) fun _ => rfl).trans (owners.read (·.patch.groups) fun _ => rfl),
    (same.read (·.patch.personalities) fun _ => rfl).trans (owners.read (·.patch.personalities) fun _ => rfl),
    (same.read State.cues fun _ => rfl).trans (owners.read State.cues fun _ => rfl),
    (same.read State.merge fun _ => rfl).trans (owners.read State.merge fun _ => rfl),
    (same.read State.zones fun _ => rfl).trans (owners.read State.zones fun _ => rfl),
    (same.read State.effects fun _ => rfl).trans (owners.read State.effects fun _ => rfl),
    (same.read State.inputs fun _ => rfl).trans (owners.read State.inputs fun _ => rfl),
    (same.read State.store fun _ => rfl).trans (owners.read State.store fun _ => rfl)⟩
  · rw [unpatch_playback u h p.line]
    exact (dropSlots_same u h).read (·.playback.takeStack) fun _ => rfl
  · exact discarding_turn_discarded (y := (s.line p.line).without h) exchange head kept _
  · exact discarding_turn_kept (y := (s.line p.line).without h) exchange stays _
  · exact ⟨u.unpatchReleases p.line h, u.withdrawn h p.line, u.withdrawnLine h p.line, (s.line p.line).withdrawn h,
      unpatchReleases_eq u h p.line, count, queue, fun k apart => (watch k).trans (if_neg apart),
      fun k apart => (withdrawn_line u h p.line k).trans (if_neg apart), (withdrawn_line u h p.line p.line).trans (if_pos rfl),
      lineFields, lineQueue, lineWait, lineSnapshot, rfl,
      fun none => (unpatch_eq u h p.line).trans (if_pos none), fun some => (unpatch_eq u h p.line).trans (if_neg some)⟩

end Sys2Proof.Machine
end

section
/-! SUPPORT. Takes (R41 to R47): the next cue, the tracked target, and the slots a take leaves. -/

namespace Sys2Proof.Machine

open Sys2Proof

variable (s : State)

/-! ## Keys and slots -/

theorem rank_lt (a : Attr) : a.rank < 4 := by cases a <;> decide

theorem rank_inj {a b : Attr} (h : a.rank = b.rank) : a = b := by cases a <;> cases b <;> simp_all [Attr.rank]

theorem slotKey_inj {h k : Nat} {a b : Attr} : slotKey h a = slotKey k b ↔ h = k ∧ a = b := by
  refine ⟨fun same => ?_, fun ⟨rfl, rfl⟩ => rfl⟩
  have := rank_lt a
  have := rank_lt b
  rw [slotKey, slotKey] at same
  exact ⟨by omega, rank_inj (by omega)⟩

theorem slotFor_eq (slots : List Slot) (h : Nat) (a : Attr) :
    slotFor slots h a = slots.find? (fun x => Slot.key x == slotKey h a) := by
  have same : ∀ x : Slot, (x.head == h && x.attr == a) = (Slot.key x == slotKey h a) := fun x => by
    rw [Bool.eq_iff_iff, Bool.and_eq_true, beq_iff_eq, beq_iff_eq, beq_iff_eq, Slot.key, slotKey_inj]
  simp only [slotFor, same]

/-- R37: what a table holds for a pair after a slot was put at its place. -/
theorem slotFor_putBy (x : Slot) (slots : List Slot) (h : Nat) (a : Attr) : slotFor (putBy Slot.key x slots) h a =
    if h = x.head ∧ a = x.attr then some x else slotFor slots h a := by
  rw [slotFor_eq, find?_putBy, slotFor_eq]
  simp only [Slot.key, slotKey_inj]

/-- R43: a pair that a take does not name keeps its slot. -/
theorem slotFor_takenSlots_other (before : List Slot) (c : Cue) {ws : List Want} {h : Nat} {a : Attr}
    (other : ∀ w ∈ ws, ¬ (w.head = h ∧ w.attr = a)) (onto : List Slot) :
    slotFor (s.takenSlots before c ws onto) h a = slotFor onto h a := by
  induction ws generalizing onto with
  | nil => rfl
  | cons w ws ih =>
    obtain ⟨first, rest⟩ := List.forall_mem_cons.mp other
    have step : s.takenSlots before c (w :: ws) onto = s.takenSlots before c ws (putBy Slot.key (s.takenSlot before c w) onto) := rfl
    rw [step, ih rest, slotFor_putBy, if_neg fun ⟨head, attr⟩ => first ⟨head.symm, attr.symm⟩]

/-- R43: a pair that a take names, once, gets the slot that the take makes of it. -/
theorem slotFor_takenSlots_named (before : List Slot) (c : Cue) {ws : List Want} (once : (ws.map Want.key).Nodup) {w : Want}
    (hw : w ∈ ws) (onto : List Slot) :
    slotFor (s.takenSlots before c ws onto) w.head w.attr = some (s.takenSlot before c w) := by
  induction ws generalizing onto with
  | nil => cases hw
  | cons x ws ih =>
    obtain ⟨fresh, once⟩ := List.nodup_cons.mp once
    have step : s.takenSlots before c (x :: ws) onto = s.takenSlots before c ws (putBy Slot.key (s.takenSlot before c x) onto) := rfl
    rw [step]
    rcases List.mem_cons.mp hw with rfl | hw
    · rw [slotFor_takenSlots_other s before c fun y hy same => fresh ?_, slotFor_putBy, if_pos ⟨rfl, rfl⟩]
      exact List.mem_map.mpr ⟨y, hy, slotKey_inj.mpr same⟩
    · exact ih once hw _

/-- Settles O28. -/
theorem takenSlotsStartFromThePicture : Obligations.TakenSlotsStartFromThePicture := fun s slots c once =>
  ⟨fun _ hw => slotFor_takenSlots_named s slots c once hw slots, fun _ _ other => slotFor_takenSlots_other s slots c other slots⟩

/-! ## The next cue (R41) -/

theorem layerCues_of_list {l n : Nat} (assigned : (s.layer l).settings.list = some n) {cl : CueList} (list : s.list n = some cl) :
    s.layerCues l = cl.cues := by
  rw [State.layerCues, assigned]
  simp only [list]

theorem find?_first_above {cs : List Cue} (sorted : cs.Pairwise (fun a b => a.number < b.number)) {n : Nat} {c : Cue} (hc : c ∈ cs)
    (above : n < c.number) (first : ∀ d ∈ cs, n < d.number → c.number ≤ d.number) :
    cs.find? (fun d => decide (n < d.number)) = some c := by
  induction cs with
  | nil => cases hc
  | cons d ds ih =>
    obtain ⟨ahead, rest⟩ := List.pairwise_cons.mp sorted
    rcases List.mem_cons.mp hc with rfl | hc
    · exact List.find?_cons_of_pos (decide_eq_true above)
    · have below : ¬ n < d.number := fun h => by
        have := first d List.mem_cons_self h
        have := ahead c hc
        omega
      rw [List.find?_cons_of_neg (by simpa using below)]
      exact ih rest hc fun e he => first e (List.mem_cons_of_mem d he)

theorem find?_none_above {cs : List Cue} {n : Nat} (passed : ∀ d ∈ cs, d.number ≤ n) :
    cs.find? (fun d => decide (n < d.number)) = none :=
  List.find?_eq_none.mpr fun d hd => by simpa using passed d hd

theorem nextCue_nil (y : Layer) : y.nextCue [] = none := by
  rw [Layer.nextCue]
  split
  · rfl
  · simp

theorem nextCue_above {y : Layer} {n : Nat} (current : y.currentCue = some n) {cs : List Cue} {c : Cue}
    (found : cs.find? (fun d => decide (n < d.number)) = some c) : y.nextCue cs = some c := by
  rw [Layer.nextCue, current]
  simp only [found]

theorem nextCue_past {y : Layer} {n : Nat} (current : y.currentCue = some n) {cs : List Cue}
    (passed : ∀ d ∈ cs, d.number ≤ n) : y.nextCue cs = if y.settings.mode = .chase then cs.head? else none := by
  rw [Layer.nextCue, current]
  simp only [find?_none_above passed]

/-! ## A GO -/

theorem goTake_of_nextCue {s : State} {l : Nat} {c : Cue} (idle : s.loading = false) (hl : l < 12)
    (next : (s.layer l).nextCue (s.layerCues l) = some c) : s.goTake l = s.takeCue l c := by
  have cues : ¬ (s.layerCues l).isEmpty = true := by
    intro empty
    rw [List.isEmpty_iff.mp empty, nextCue_nil] at next
    cases next
  rw [State.goTake, if_neg (by simp [idle]), if_neg (show ¬ Config.layers ≤ l from hl.not_ge), if_neg cues, next]

theorem takeCue_taken {s : State} {l : Nat} {c : Cue} (room : slotsNeeded (s.layer l).slots (s.cueWants c) ≤ s.freeSlots) :
    s.takeCue l c = .taken (s.writeTake l c (s.takenSlots (s.layer l).slots c (s.cueWants c) (s.layer l).slots))
      ⟨c.number, slotsNeeded (s.layer l).slots (s.cueWants c),
        (s.cueWants c).length - slotsNeeded (s.layer l).slots (s.cueWants c), 0, s.skipped c⟩ :=
  if_neg (Nat.not_lt.mpr room)

theorem takeCue_full {s : State} {l : Nat} {c : Cue} (full : s.freeSlots < slotsNeeded (s.layer l).slots (s.cueWants c)) :
    s.takeCue l c = .refused .slotPoolFull (some c.number) := if_pos full

theorem ownGo_refused {s : State} {l : Nat} {status : Status} {cue : Option Nat} (h : s.goTake l = .refused status cue)
    (tag : Byte) : ownGo l tag s = refuse status s := by
  rw [ownGo, h]

theorem ownGo_taken {s : State} {l : Nat} {v : State} {i : TakeInfo} (h : s.goTake l = .taken v i) (tag : Byte) :
    ownGo l tag s = accept v (.took i.cue i.created i.rebased i.skipped v.freeSlots) := by
  rw [ownGo, h]

/-- R40, R44: what a take writes: the layer, and the top of the take stack. -/
theorem writeTake_layer (l : Nat) (c : Cue) (slots : List Slot) (k : Nat) :
    (s.writeTake l c slots).layer k = if k = l then (s.layer l).afterTake c slots else s.layer k :=
  layer_setLayer s l k _

/-- Settles O27: an accepted GO is a take, and the refusals come in the order of the checks. -/
theorem goTakesTheNextCue : Obligations.GoTakesTheNextCue := by
  refine ⟨fun t tag l c s admits idle hl some next room => ?_,
    fun s l => ⟨fun none => ?_, fun n assigned => ⟨fun none => ?_, fun cl list => layerCues_of_list s assigned list⟩⟩,
    fun y cs sorted => ⟨fun none c rest list => ?_, fun n current => ⟨fun c hc above first =>
      nextCue_above current (find?_first_above sorted hc above first), fun passed chase c rest list => ?_,
      fun passed other => ?_⟩⟩,
    fun t tag l s admits => ⟨fun loading => ?_, fun idle bad => ?_, fun idle hl none => ?_, fun idle hl some none => ?_,
      fun c idle hl next full => ?_⟩⟩
  · have go := (goTake_of_nextCue (s := s.advance t) idle hl next).trans (takeCue_taken (s := s.advance t) room)
    refine ⟨_, request_reply s t tag 0x30#8 _ _ .ok _ admits (ownGo_taken go tag), (writeTake_layer _ l c _ l).trans (if_pos rfl),
      fun k apart => (writeTake_layer _ l c _ k).trans (if_neg apart), rfl, rfl, rfl, rfl, rfl, rfl, rfl, rfl, rfl, rfl, rfl, rfl⟩
  · rw [State.layerCues, none]
  · rw [State.layerCues, assigned]
    simp only [none]
  · rw [Layer.nextCue, none, list]
    rfl
  · rw [nextCue_past current passed, if_pos chase, list]
    rfl
  · rw [nextCue_past current passed, if_neg other]
  · exact request_reply s t tag 0x30#8 (ownGo l) _ .storeBusy _ admits (ownGo_refused (s := s.advance t) (cue := none) (if_pos loading) tag)
  · refine request_reply s t tag 0x30#8 (ownGo l) _ .badField _ admits (ownGo_refused (cue := none) ?_ tag)
    rw [State.goTake, if_neg (by simp [idle]), if_pos (show Config.layers ≤ l from bad)]
  · refine request_reply s t tag 0x30#8 (ownGo l) _ .noList _ admits (ownGo_refused (cue := .none) ?_ tag)
    have cues : ((s.advance t).layerCues l).isEmpty = true := List.isEmpty_iff.mpr none
    rw [State.goTake, if_neg (by simp [idle]), if_neg (show ¬ Config.layers ≤ l from hl.not_ge), if_pos cues]
  · refine request_reply s t tag 0x30#8 (ownGo l) _ .endOfList _ admits (ownGo_refused (cue := .none) ?_ tag)
    have cues : ¬ ((s.advance t).layerCues l).isEmpty = true := fun empty => some (List.isEmpty_iff.mp empty)
    have last : ((s.advance t).layer l).nextCue ((s.advance t).layerCues l) = .none := none
    rw [State.goTake, if_neg (by simp [idle]), if_neg (show ¬ Config.layers ≤ l from hl.not_ge), if_neg cues, last]
  · exact request_reply s t tag 0x30#8 (ownGo l) _ .slotPoolFull _ admits
      (ownGo_refused ((goTake_of_nextCue (s := s.advance t) idle hl next).trans (takeCue_full (s := s.advance t) full)) tag)

end Sys2Proof.Machine
end

section
/-! SUPPORT. GOTO (R46, R47), and the requests of the layers (R50 to R55). -/

namespace Sys2Proof.Machine

open Sys2Proof

variable (s : State)

/-! ## The tracked target -/

/-- Elements put one after another, a later one over an earlier one of its key: of each key, the last stands. -/
theorem mem_putAll_nil {α : Type} (key : α → Nat) (xs : List α) (e : α) :
    e ∈ putAll key xs [] ↔ ∃ before later, xs = before ++ e :: later ∧ ∀ x ∈ later, key x ≠ key e := by
  induction xs using List.reverseRecOn with
  | nil => simp [putAll]
  | append_singleton xs x ih =>
    have sorted : (putAll key xs []).Pairwise (fun a b => key a < key b) := putAll_sorted key xs .nil
    have step : putAll key (xs ++ [x]) [] = putBy key x (putAll key xs []) := by
      rw [putAll, List.foldl_append]
      rfl
    rw [step, mem_putBy_iff key x sorted, ih]
    constructor
    · rintro (rfl | ⟨⟨before, later, rfl, last⟩, other⟩)
      · exact ⟨xs, [], rfl, by simp⟩
      · refine ⟨before, later ++ [x], by simp, fun y hy => ?_⟩
        rcases List.mem_append.mp hy with hy | hy
        · exact last y hy
        · rw [List.mem_singleton.mp hy]; exact other.symm
    · rintro ⟨before, later, split, last⟩
      rcases List.eq_nil_or_concat later with rfl | ⟨rest, y, rfl⟩
      · obtain ⟨rfl, same⟩ := List.append_inj' split rfl
        exact .inl (List.singleton_inj.mp same).symm
      · rw [List.concat_eq_append] at split last
        have regrouped : before ++ e :: (rest ++ [y]) = (before ++ e :: rest) ++ [y] := by simp
        obtain ⟨rfl, same⟩ := List.append_inj' (split.trans regrouped) rfl
        obtain rfl := List.singleton_inj.mp same
        exact .inr ⟨⟨before, rest, rfl, fun z hz => last z (List.mem_append_left _ hz)⟩,
          (last x (List.mem_append_right _ List.mem_cons_self)).symm⟩

theorem tracked_eq (cs : List Cue) : s.tracked cs = putAll Want.key (cs.flatMap s.cueWants) [] := by
  rw [putAll, List.foldl_flatMap]
  rfl

theorem tracked_nodup (cs : List Cue) : ((s.tracked cs).map Want.key).Nodup := by
  rw [tracked_eq]
  exact (List.pairwise_map.mpr (putAll_sorted Want.key _ .nil)).imp fun less => less.ne

theorem mem_tracked (cs : List Cue) (w : Want) : w ∈ s.tracked cs ↔ ∃ before later,
    cs.flatMap s.cueWants = before ++ w :: later ∧ ∀ x ∈ later, ¬ (x.head = w.head ∧ x.attr = w.attr) := by
  rw [tracked_eq, mem_putAll_nil]
  simp only [Want.key, ne_eq, slotKey_inj]

/-- R20: the values of an entry. -/
theorem mem_wants (e : Entry) (w : Want) : w ∈ e.wants ↔ w.head = e.head
    ∧ ((∃ n, e.pan = some n ∧ w.attr = .pan ∧ w.value = .scalar n)
      ∨ (∃ n, e.tilt = some n ∧ w.attr = .tilt ∧ w.value = .scalar n)
      ∨ (∃ n, e.intensity = some n ∧ w.attr = .intensity ∧ w.value = .scalar n)
      ∨ (∃ k, e.colour = some k ∧ w.attr = .colour ∧ w.value = .triple k)) := by
  obtain ⟨head, attr, value⟩ := w
  simp only [Entry.wants, List.mem_append, Option.mem_toList, Option.map_eq_some_iff, Want.mk.injEq]
  constructor
  · rintro (((⟨n, present, rfl, rfl, rfl⟩ | ⟨n, present, rfl, rfl, rfl⟩) | ⟨n, present, rfl, rfl, rfl⟩) |
      ⟨n, present, rfl, rfl, rfl⟩)
    · exact ⟨rfl, .inl ⟨n, present, rfl, rfl⟩⟩
    · exact ⟨rfl, .inr (.inl ⟨n, present, rfl, rfl⟩)⟩
    · exact ⟨rfl, .inr (.inr (.inl ⟨n, present, rfl, rfl⟩))⟩
    · exact ⟨rfl, .inr (.inr (.inr ⟨n, present, rfl, rfl⟩))⟩
  · rintro ⟨rfl, ⟨n, present, rfl, rfl⟩ | ⟨n, present, rfl, rfl⟩ | ⟨n, present, rfl, rfl⟩ | ⟨n, present, rfl, rfl⟩⟩
    · exact .inl (.inl (.inl ⟨n, present, rfl, rfl, rfl⟩))
    · exact .inl (.inl (.inr ⟨n, present, rfl, rfl, rfl⟩))
    · exact .inl (.inr ⟨n, present, rfl, rfl, rfl⟩)
    · exact .inr ⟨n, present, rfl, rfl, rfl⟩

/-! ## The slots after a GOTO -/

theorem named_eq_false {ws : List Want} {x : Slot} (other : ∀ w ∈ ws, ¬ (w.head = x.head ∧ w.attr = x.attr)) :
    x.named ws = false := by
  rw [Slot.named, List.any_eq_false]
  intro w hw
  rw [Bool.and_eq_true, beq_iff_eq, beq_iff_eq]
  exact other w hw

/-- R47: the slot a GOTO leaves of one that its target does not name. -/
def Slot.outside (ws : List Want) (c : Cue) (x : Slot) : Slot := if x.named ws then x else x.releasedBy c

theorem releasedBy_eq (c : Cue) (x : Slot) : x.releasedBy c =
    if x.attr = .intensity then ⟨x.head, x.attr, x.value, .scalar 0, c.delayMs, c.fadeMs, 0, .fadeOut⟩
    else ⟨x.head, x.attr, x.value, x.value, 0, 0, 0, .hold⟩ := rfl

theorem outside_pair (ws : List Want) (c : Cue) (x : Slot) :
    (x.outside ws c).head = x.head ∧ (x.outside ws c).attr = x.attr := by
  rw [Slot.outside]
  split
  · exact ⟨rfl, rfl⟩
  · rw [releasedBy_eq]
    split <;> exact ⟨rfl, rfl⟩

/-- What a table holds for a pair after its slots were changed, each within its pair. -/
theorem slotFor_map {f : Slot → Slot} (pair : ∀ x, (f x).head = x.head ∧ (f x).attr = x.attr) (slots : List Slot) (h : Nat)
    (a : Attr) : slotFor (slots.map f) h a = (slotFor slots h a).map f := by
  rw [slotFor, slotFor, List.find?_map]
  congr 2
  funext x
  rw [Function.comp_apply, (pair x).1, (pair x).2]

theorem gotoSlots_eq (slots : List Slot) (c : Cue) (ws : List Want) :
    s.gotoSlots slots c ws = s.takenSlots slots c ws (slots.map (Slot.outside ws c)) := rfl

theorem slotFor_gotoSlots_other (slots : List Slot) (c : Cue) {ws : List Want} {h : Nat} {a : Attr}
    (other : ∀ w ∈ ws, ¬ (w.head = h ∧ w.attr = a)) : slotFor (s.gotoSlots slots c ws) h a = (slotFor slots h a).map (fun x =>
      if a = .intensity then ⟨h, a, x.value, .scalar 0, c.delayMs, c.fadeMs, 0, .fadeOut⟩
      else ⟨h, a, x.value, x.value, 0, 0, 0, .hold⟩) := by
  rw [gotoSlots_eq, slotFor_takenSlots_other s slots c other, slotFor_map (outside_pair ws c)]
  cases found : slotFor slots h a with
  | none => rfl
  | some x =>
    obtain ⟨head, attr⟩ : x.head = h ∧ x.attr = a := by simpa [slotFor] using List.find?_some found
    have released : x.named ws = false := named_eq_false fun w hw => by rw [head, attr]; exact other w hw
    rw [Option.map_some, Option.map_some, Slot.outside, released, if_neg Bool.false_ne_true, releasedBy_eq, head, attr]

theorem fade_eq (c : Cue) (a : Attr) : c.fade a = match a with
    | .pan => c.moveMs
    | .tilt => c.moveMs
    | .intensity => c.fadeMs
    | .colour => c.colourMs := by
  cases a <;> rfl

/-! ## A GOTO -/

theorem layerCues_ne_nil {cs : List Cue} {p : Cue → Bool} {c : Cue} (found : cs.find? p = some c) : ¬ cs.isEmpty = true := by
  intro empty
  rw [List.isEmpty_iff.mp empty] at found
  cases found

theorem gotoTake_of_cue {s : State} {l n : Nat} {c : Cue} (idle : s.loading = false) (hl : l < 12) (hn : n ≠ 0)
    (found : (s.layerCues l).find? (fun c => c.number == n) = some c) : s.gotoTake l n = s.gotoCue l (s.layerCues l) c := by
  have valid : ¬ (Config.layers ≤ l ∨ n = 0) := not_or.mpr ⟨hl.not_ge, hn⟩
  rw [State.gotoTake, if_neg (by simp [idle]), if_neg valid, if_neg (layerCues_ne_nil found), found]

theorem ownGoto_taken {s : State} {l n : Nat} {v : State} {i : TakeInfo} (h : s.gotoTake l n = .taken v i) (tag : Byte) :
    ownGoto l n tag s = accept v (.wentTo i.cue i.created i.rebased i.released i.skipped v.freeSlots) := by
  rw [ownGoto, h]

/-- Settles O29. -/
theorem gotoTakesTheTrackedTarget : Obligations.GotoTakesTheTrackedTarget := by
  refine ⟨fun t tag l n c s admits idle hl hn found room => ?_, fun s c w => ?_,
    fun s cs => ⟨tracked_nodup s cs, mem_tracked s cs⟩, fun s slots c ws once => ⟨fun w hw => ?_,
      fun h a other => slotFor_gotoSlots_other s slots c other⟩⟩
  · have positive : n.toNat ≠ 0 := fun zero => hn (BitVec.eq_of_toNat_eq zero)
    have taken := (gotoTake_of_cue (s := s.advance t) idle hl positive found).trans (if_neg (Nat.not_lt.mpr room))
    exact ⟨_, request_reply s t tag 0x31#8 _ _ .ok _ admits (ownGoto_taken taken tag), (writeTake_layer _ l c _ l).trans (if_pos rfl),
      fun k apart => (writeTake_layer _ l c _ k).trans (if_neg apart), rfl, rfl, rfl, rfl, rfl, rfl, rfl, rfl, rfl, rfl, rfl, rfl⟩
  · simp only [State.cueWants, List.mem_flatMap, List.mem_filter, mem_wants, and_assoc]
  · rw [gotoSlots_eq, slotFor_takenSlots_named s slots c once hw, State.takenSlot, fade_eq]
    rfl

end Sys2Proof.Machine
end

section
/-! SUPPORT. The requests of the layers (R50 to R55). -/

namespace Sys2Proof.Machine

open Sys2Proof

variable (s : State)

/-! ## Pause, resume, release and kill -/

theorem layerStateReply_of_setLayer (l : Nat) (y : Layer) :
    layerStateReply l s (some (s.setLayer l y)) = accept (s.setLayer l y) (.layerState y.state) := by
  rw [layerStateReply, layer_setLayer, if_pos rfl]

theorem ownPause_eq {l : Nat} (hl : l < 12) (tag : Byte) : ownPause l tag s = layerStateReply l s (s.pauseLayer l) :=
  if_neg (show ¬ Config.layers ≤ l from hl.not_ge)

theorem ownResume_eq {l : Nat} (hl : l < 12) (tag : Byte) : ownResume l tag s = layerStateReply l s (s.resumeLayer l) :=
  if_neg (show ¬ Config.layers ≤ l from hl.not_ge)

theorem pauseLayer_of_pausable {s : State} {l : Nat} {p : PausedFrom} (h : (s.layer l).state.pausable = some p) :
    s.pauseLayer l = some (s.setLayer l { s.layer l with state := .paused, pausedFrom := some p }) := by
  rw [State.pauseLayer, h]
  rfl

theorem pauseLayer_refused {s : State} {l : Nat} (running : (s.layer l).state ≠ .running)
    (releasing : (s.layer l).state ≠ .releasing) : s.pauseLayer l = none := by
  have refused : (s.layer l).state.pausable = none := by
    cases h : (s.layer l).state with
    | running => exact absurd h running
    | releasing => exact absurd h releasing
    | idle => rfl
    | settled => rfl
    | paused => rfl
  rw [State.pauseLayer, refused]
  rfl

theorem resumeLayer_of_paused {s : State} {l : Nat} {p : PausedFrom} (paused : (s.layer l).state = .paused)
    (before : (s.layer l).pausedFrom = some p) :
    s.resumeLayer l = some (s.setLayer l { s.layer l with state := p.state, pausedFrom := none }) := by
  rw [State.resumeLayer, if_pos paused, before]
  rfl

theorem released_eq (ms : Nat) : Slot.released ms = fun x => if x.attr = .intensity
    then ⟨x.head, x.attr, x.value, .scalar 0, 0, ms, 0, .none⟩ else ⟨x.head, x.attr, x.value, x.value, 0, 0, 0, .none⟩ := rfl

/-- Settles O30, request by request. -/
theorem pauseResumeReleaseAndKill : Obligations.PauseResumeReleaseAndKill := by
  refine ⟨fun t tag l s admits => ⟨fun bad => ⟨?_, ?_⟩, fun hl running => ?_, fun hl releasing => ?_,
      fun hl running releasing => ?_, fun hl paused before => ?_, fun hl paused before => ?_, fun hl other => ?_⟩,
    fun t tag l s admits => ⟨fun bad => ?_, fun hl idle => ?_, fun hl busy => ?_⟩,
    fun t tag l s admits => ⟨fun bad => ?_, fun hl => ?_⟩⟩
  · exact request_reply s t tag 0x32#8 (ownPause l) _ _ _ admits (if_pos bad)
  · exact request_reply s t tag 0x33#8 (ownResume l) _ _ _ admits (if_pos bad)
  · refine request_reply s t tag 0x32#8 (ownPause l) _ _ _ admits ?_
    rw [ownPause_eq _ hl, pauseLayer_of_pausable (s := s.advance t) (congrArg LayerState.pausable running),
      layerStateReply_of_setLayer]
    rfl
  · refine request_reply s t tag 0x32#8 (ownPause l) _ _ _ admits ?_
    rw [ownPause_eq _ hl, pauseLayer_of_pausable (s := s.advance t) (congrArg LayerState.pausable releasing),
      layerStateReply_of_setLayer]
    rfl
  · refine request_reply s t tag 0x32#8 (ownPause l) _ _ _ admits ?_
    rw [ownPause_eq _ hl, pauseLayer_refused (s := s.advance t) running releasing]
    rfl
  · refine request_reply s t tag 0x33#8 (ownResume l) _ _ _ admits ?_
    rw [ownResume_eq _ hl, resumeLayer_of_paused (s := s.advance t) paused before, layerStateReply_of_setLayer]
    rfl
  · refine request_reply s t tag 0x33#8 (ownResume l) _ _ _ admits ?_
    rw [ownResume_eq _ hl, resumeLayer_of_paused (s := s.advance t) paused before, layerStateReply_of_setLayer]
    rfl
  · refine request_reply s t tag 0x33#8 (ownResume l) _ _ _ admits ?_
    rw [ownResume_eq _ hl, State.resumeLayer, if_neg (show ((s.advance t).layer l).state ≠ .paused from other)]
    rfl
  · exact request_reply s t tag 0x34#8 (ownRelease l) _ _ _ admits (if_pos bad)
  · refine request_reply s t tag 0x34#8 (ownRelease l) _ _ _ admits ?_
    rw [ownRelease, if_neg (show ¬ Config.layers ≤ l from hl.not_ge), State.releaseLayer,
      if_pos (show ((s.advance t).layer l).state = .idle from idle)]
    rfl
  · refine request_reply s t tag 0x34#8 (ownRelease l) _ _ _ admits ?_
    rw [ownRelease, if_neg (show ¬ Config.layers ≤ l from hl.not_ge), State.releaseLayer,
      if_neg (show ((s.advance t).layer l).state ≠ .idle from busy), released_eq]
    rfl
  · exact request_reply s t tag 0x35#8 (ownKill l) _ _ _ admits (if_pos bad)
  · exact ⟨(s.advance t).clearLayer l, request_reply s t tag 0x35#8 (ownKill l) _ _ _ admits
        (if_neg (show ¬ Config.layers ≤ l from hl.not_ge)),
      (clearLayer_layer (s.advance t) l l).trans (if_pos rfl), fun k apart => (clearLayer_layer (s.advance t) l k).trans (if_neg apart),
      rfl, rfl, rfl, rfl, rfl, rfl, rfl, rfl, rfl, rfl, rfl, rfl, rfl⟩

/-! ## Settings -/

theorem okOrClamped_clamps (lo hi : Nat) (v : Int) :
    okOrClamped (clamps lo hi v) = if v < lo ∨ (hi : Int) < v then Status.clamped else .ok := by
  rw [okOrClamped]
  refine ite_congr (propext ?_) (fun _ => rfl) fun _ => rfl
  rw [clamps, Bool.or_eq_true, decide_eq_true_iff, decide_eq_true_iff]

section
variable {s} {l : Nat} (idle : s.loading = false) (hl : l < 12)
include idle hl

theorem ownLayerSetting_eq (clamped : Bool) (f : LayerSettings → LayerSettings) (tag : Byte) : ownLayerSetting l clamped f tag s =
    (s.setLayer l { s.layer l with settings := f (s.layer l).settings }, .reply (okOrClamped clamped) .bare) := by
  rw [ownLayerSetting, if_neg (by simp [idle]), if_neg (show ¬ Config.layers ≤ l from hl.not_ge)]

theorem ownLayerMode_eq (m : LayerMode) (tag : Byte) : ownLayerMode l (some m) tag s =
    if (s.layer l).state ≠ .idle then refuse .wrongState s
    else accept (s.setLayer l { s.layer l with settings.mode := m, chaseCount := 0 }) .bare := by
  rw [ownLayerMode, if_neg (by simp [idle])]
  exact if_neg (show ¬ Config.layers ≤ l from hl.not_ge)

theorem ownAssignList_eq {list : Option Nat} (range : ∀ n, list = some n → n < 64) (tag : Byte) : ownAssignList l list tag s =
    if (s.layer l).state ≠ .idle then refuse .wrongState s
    else if list.any (fun n => (s.list n).isNone) then refuse .notFound s
    else accept (s.setLayer l { s.layer l with settings.list := list }) .bare := by
  have valid : ¬ (Config.layers ≤ l ∨ list.any (fun n => decide (Config.cueLists ≤ n))) := by
    rintro (high | far)
    · exact hl.not_ge high
    · obtain ⟨n, named, far⟩ := (Option.any_eq_true _ _).mp far
      exact (range n named).not_ge (of_decide_eq_true far)
  rw [ownAssignList, if_neg (by simp [idle]), if_neg valid]

end

/-- Settles O31. -/
theorem layerSettingsReplaceOneSetting : Obligations.LayerSettingsReplaceOneSetting := by
  refine ⟨fun t tag l master v m s admits idle hl => ?_, fun t tag l m list s admits idle hl range =>
    ⟨fun busy => ⟨?_, ?_⟩, fun rests => ?_, fun rests defined => ?_⟩⟩
  · have setting := fun clamped f => ownLayerSetting_eq (s := s.advance t) idle hl clamped f tag
    refine ⟨request_reply s t tag 0x36#8 _ _ _ _ admits (setting false _), ?_,
      request_reply s t tag 0x38#8 (ownIntensityMode l (some m)) _ _ _ admits (setting false fun c => { c with intensityMode := m }),
      ?_, ?_⟩
    · have served := request_reply s t tag 0x37#8 _ _ _ _ admits
        (setting (clamps 1 15 v) fun c => { c with precedence := clamp 1 15 v })
      rw [okOrClamped_clamps] at served
      exact served
    · have served := request_reply s t tag 0x39#8 _ _ _ _ admits
        (setting (clamps 0 600000 v) fun c => { c with releaseMs := clamp 0 600000 v })
      rw [okOrClamped_clamps] at served
      exact served
    · have served := request_reply s t tag 0x3A#8 _ _ _ _ admits
        (setting (clamps 1 64 v) fun c => { c with chaseBeats := clamp 1 64 v })
      rw [okOrClamped_clamps] at served
      exact served
  · exact request_reply s t tag 0x3B#8 _ _ _ _ admits ((ownLayerMode_eq (s := s.advance t) idle hl m tag).trans (if_pos busy))
  · exact request_reply s t tag 0x3C#8 _ _ _ _ admits ((ownAssignList_eq (s := s.advance t) idle hl range tag).trans (if_pos busy))
  · exact request_reply s t tag 0x3B#8 _ _ _ _ admits
      ((ownLayerMode_eq (s := s.advance t) idle hl m tag).trans (if_neg (not_not.mpr rests)))
  · have known : ¬ list.any (fun n => ((s.advance t).list n).isNone) = true := by
      intro missing
      obtain ⟨n, named, missing⟩ := (Option.any_eq_true _ _).mp missing
      exact defined n named (Option.isNone_iff_eq_none.mp missing)
    exact request_reply s t tag 0x3C#8 _ _ _ _ admits
      ((ownAssignList_eq (s := s.advance t) idle hl range tag).trans ((if_neg (not_not.mpr rests)).trans (if_neg known)))

end Sys2Proof.Machine
end

section
/-! SUPPORT. The layer step (R39, R45, R52) and the takes of counts that run out (R45, R48). -/

namespace Sys2Proof.Machine

open Sys2Proof

variable (s : State)

/-! ## A slot advanced -/

theorem complete_iff (x : Slot) : x.complete = true ↔ x.elapsedMs = x.delayMs + x.fadeMs := beq_iff_eq

/-- R39: advancing a slot, complete or not, cuts its elapsed time to delay and fade together. -/
theorem slot_advance_eq (x : Slot) : x.advance = { x with elapsedMs := min (x.elapsedMs + 4) (x.delayMs + x.fadeMs) } := by
  rw [Slot.advance]
  split
  · next done =>
    rw [complete_iff] at done
    rw [← done, min_eq_right (Nat.le_add_right _ 4)]
  · rfl

/-! ## A layer advanced -/

/-- R39 steps 1 to 3: what a step leaves of a layer before it is finished or counted. -/
def Layer.stepped (y : Layer) : Layer := y.advance.dropFadeOuts.settle

/-- R39 step 1: the slots of a layer that moves, advanced. -/
def Layer.advancedSlots (y : Layer) : List Slot :=
  y.slots.map (fun x => { x with elapsedMs := min (x.elapsedMs + 4) (x.delayMs + x.fadeMs) })

theorem layer_advance_moving {y : Layer} (moving : y.state = .running ∨ y.state = .releasing) :
    y.advance = { y with slots := y.advancedSlots } := by
  rw [Layer.advance, if_pos moving, Layer.advancedSlots, ← funext slot_advance_eq]

theorem stepped_of_still {y : Layer} (running : y.state ≠ .running) (releasing : y.state ≠ .releasing) : y.stepped = y := by
  rw [Layer.stepped, Layer.advance, if_neg (not_or.mpr ⟨running, releasing⟩), Layer.dropFadeOuts, if_neg running, Layer.settle,
    if_neg fun now => running now.1]

theorem stepped_of_releasing {y : Layer} (releasing : y.state = .releasing) : y.stepped = { y with slots := y.advancedSlots } := by
  have other : ({ y with slots := y.advancedSlots } : Layer).state ≠ .running := by
    rw [show ({ y with slots := y.advancedSlots } : Layer).state = y.state from rfl, releasing]
    exact nofun
  rw [Layer.stepped, layer_advance_moving (.inr releasing), Layer.dropFadeOuts, if_neg other, Layer.settle,
    if_neg fun now => other now.1]

/-- R39 step 2: the slots kept of those advanced. -/
def Layer.keptSlots (y : Layer) : List Slot :=
  y.advancedSlots.filter (fun x => decide (x.elapsedMs ≠ x.delayMs + x.fadeMs) || decide (x.mark ≠ .fadeOut))

theorem dropFadeOuts_running {y : Layer} (running : y.state = .running) :
    y.advance.dropFadeOuts = { y with slots := y.keptSlots } := by
  have kept : ∀ x : Slot, (!(x.complete && decide (x.mark = .fadeOut))) =
      (decide (x.elapsedMs ≠ x.delayMs + x.fadeMs) || decide (x.mark ≠ .fadeOut)) := fun x => by
    rw [Bool.not_and, Slot.complete]
    simp only [ne_eq, decide_not]
    rfl
  rw [layer_advance_moving (.inl running), Layer.dropFadeOuts, if_pos (show ({ y with slots := _ } : Layer).state = _ from running)]
  simp only [kept, Layer.keptSlots]

theorem stepped_of_running {y : Layer} (running : y.state = .running)
    (fading : ∃ x ∈ y.advancedSlots, x.elapsedMs ≠ x.delayMs + x.fadeMs) : y.stepped = { y with slots := y.keptSlots } := by
  have unsettled : ¬ (y.state = .running ∧ y.keptSlots.all Slot.complete = true) := by
    rintro ⟨_, done⟩
    obtain ⟨x, hx, unfinished⟩ := fading
    have kept : x ∈ y.keptSlots := List.mem_filter.mpr ⟨hx, by simp [unfinished]⟩
    exact unfinished ((complete_iff x).mp (List.all_eq_true.mp done x kept))
  rw [Layer.stepped, dropFadeOuts_running running, Layer.settle, if_neg unsettled]

theorem stepped_of_finished {y : Layer} (running : y.state = .running)
    (done : ∀ x ∈ y.advancedSlots, x.elapsedMs = x.delayMs + x.fadeMs) :
    y.stepped = { y with state := .settled, slots := y.advancedSlots.filter (fun x => decide (x.mark = .none)) } := by
  have settles : y.state = .running ∧ y.keptSlots.all Slot.complete = true :=
    ⟨running, List.all_eq_true.mpr fun x hx => (complete_iff x).mpr (done x (List.mem_filter.mp hx).1)⟩
  have marks : y.keptSlots.filter (fun x => !decide (x.mark = .hold)) = y.advancedSlots.filter (fun x => decide (x.mark = .none)) := by
    rw [Layer.keptSlots, List.filter_filter]
    refine List.filter_congr fun x hx => ?_
    rw [done x hx]
    cases x.mark <;> simp
  rw [Layer.stepped, dropFadeOuts_running running, Layer.settle, if_pos settles, marks]

/-! ## The step of one layer -/

theorem stepLayer_eq (l : Nat) :
    s.stepLayer l = ((s.setLayer l (s.layer l).stepped).finishRelease l).countFollow l := rfl

theorem finishRelease_of_not_releasing {s : State} {l : Nat} (h : (s.layer l).state ≠ .releasing) : s.finishRelease l = s :=
  if_neg fun now => h now.1

theorem counts_iff (y : Layer) : y.counts = true ↔ y.state = .running ∨ y.state = .settled := by
  rw [Layer.counts, Bool.or_eq_true, decide_eq_true_iff, decide_eq_true_iff]

theorem countFollow_of_not_counting {s : State} {l : Nat} (h : ¬ ((s.layer l).state = .running ∨ (s.layer l).state = .settled)) :
    s.countFollow l = s := by
  have still : ¬ (s.layer l).counts = true := fun counts => h ((counts_iff _).mp counts)
  rw [State.countFollow, if_neg (fun due => still ((followDue_iff _).mp due).1), if_neg still]

theorem countFollow_runs_on {s : State} {l : Nat} (counts : (s.layer l).state = .running ∨ (s.layer l).state = .settled)
    (left : ∀ f, (s.layer l).followMs = some f → 4 < f) :
    s.countFollow l = s.setLayer l { s.layer l with followMs := (s.layer l).followMs.map (· - 4) } := by
  have due : ¬ (s.layer l).followDue = true := fun due => by
    obtain ⟨_, f, follow, small⟩ := (followDue_iff _).mp due
    exact (left f follow).not_ge small
  rw [State.countFollow, if_neg due, if_pos ((counts_iff _).mpr counts)]
  rfl

theorem countFollow_runs_out {s : State} {l : Nat} (counts : (s.layer l).state = .running ∨ (s.layer l).state = .settled) {f : Nat}
    (follow : (s.layer l).followMs = some f) (small : f ≤ 4) : s.countFollow l = s.followTake l :=
  if_pos ((followDue_iff _).mpr ⟨(counts_iff _).mpr counts, f, follow, small⟩)

theorem released_iff (y : Layer) :
    y.released = true ↔ ∀ x ∈ y.slots, x.attr = .intensity → x.elapsedMs = x.delayMs + x.fadeMs := by
  rw [Layer.released, List.all_eq_true]
  refine forall₂_congr fun x _ => ?_
  rw [Bool.or_eq_true, decide_eq_true_iff, complete_iff]
  exact imp_iff_not_or.symm

/-- R39: the step of a layer that neither moves nor counts. -/
theorem stepLayer_of_still {s : State} {l : Nat} (still : (s.layer l).state = .idle ∨ (s.layer l).state = .paused) :
    s.stepLayer l = s.setLayer l (s.layer l) := by
  have states : (s.layer l).state ≠ .running ∧ (s.layer l).state ≠ .releasing ∧ (s.layer l).state ≠ .settled := by
    rcases still with h | h <;> rw [h] <;> exact ⟨nofun, nofun, nofun⟩
  obtain ⟨running, releasing, settled⟩ := states
  have layer : (s.setLayer l (s.layer l)).layer l = s.layer l := by rw [layer_setLayer, if_pos rfl]
  rw [stepLayer_eq, stepped_of_still running releasing, finishRelease_of_not_releasing (by rwa [layer]),
    countFollow_of_not_counting (by rw [layer]; exact not_or.mpr ⟨running, settled⟩)]

theorem stepLayer_of_releasing {s : State} {l : Nat} (releasing : (s.layer l).state = .releasing)
    (fading : ∃ x ∈ (s.layer l).advancedSlots, x.attr = .intensity ∧ x.elapsedMs ≠ x.delayMs + x.fadeMs) :
    s.stepLayer l = s.setLayer l { s.layer l with slots := (s.layer l).advancedSlots } := by
  have layer : (s.setLayer l { s.layer l with slots := (s.layer l).advancedSlots }).layer l =
      { s.layer l with slots := (s.layer l).advancedSlots } := by rw [layer_setLayer, if_pos rfl]
  have held : ¬ (({ s.layer l with slots := (s.layer l).advancedSlots } : Layer).state = .releasing
      ∧ ({ s.layer l with slots := (s.layer l).advancedSlots } : Layer).released = true) := by
    rintro ⟨_, released⟩
    obtain ⟨x, hx, intensity, unfinished⟩ := fading
    exact unfinished ((released_iff _).mp released x hx intensity)
  have silent : ¬ ((s.layer l).state = .running ∨ (s.layer l).state = .settled) := by
    rw [releasing]
    exact not_or.mpr ⟨nofun, nofun⟩
  rw [stepLayer_eq, stepped_of_releasing releasing, State.finishRelease, layer, if_neg held,
    countFollow_of_not_counting (by rw [layer]; exact silent)]

/-- R52: the step that finishes a release. -/
theorem stepLayer_of_released {s : State} {l : Nat} (releasing : (s.layer l).state = .releasing)
    (done : ∀ x ∈ (s.layer l).advancedSlots, x.attr = .intensity → x.elapsedMs = x.delayMs + x.fadeMs) :
    s.stepLayer l = s.clearLayer l := by
  have layer : (s.setLayer l { s.layer l with slots := (s.layer l).advancedSlots }).layer l =
      { s.layer l with slots := (s.layer l).advancedSlots } := by rw [layer_setLayer, if_pos rfl]
  have finished : ({ s.layer l with slots := (s.layer l).advancedSlots } : Layer).state = .releasing
      ∧ ({ s.layer l with slots := (s.layer l).advancedSlots } : Layer).released = true :=
    ⟨releasing, (released_iff _).mpr done⟩
  have cleared : (s.setLayer l { s.layer l with slots := (s.layer l).advancedSlots }).clearLayer l = s.clearLayer l := by
    rw [State.clearLayer, layer, setLayer_setLayer]
    rfl
  have silent : ¬ (((s.clearLayer l).layer l).state = .running ∨ ((s.clearLayer l).layer l).state = .settled) := by
    rw [clearLayer_layer, if_pos rfl]
    exact not_or.mpr ⟨nofun, nofun⟩
  rw [stepLayer_eq, stepped_of_releasing releasing, State.finishRelease, layer, if_pos finished, cleared,
    countFollow_of_not_counting silent]

/-- R39: what the first three steps leave of a layer that counts still counts. -/
theorem stepped_counts {y : Layer} (counts : y.state = .running ∨ y.state = .settled) :
    (y.stepped.state = .running ∨ y.stepped.state = .settled) ∧ y.stepped.followMs = y.followMs := by
  rcases counts with running | settled
  · by_cases fading : ∃ x ∈ y.advancedSlots, x.elapsedMs ≠ x.delayMs + x.fadeMs
    · rw [stepped_of_running running fading]
      exact ⟨.inl running, rfl⟩
    · push Not at fading
      rw [stepped_of_finished running fading]
      exact ⟨.inr rfl, rfl⟩
  · rw [stepped_of_still (by rw [settled]; exact nofun) (by rw [settled]; exact nofun)]
    exact ⟨.inr settled, rfl⟩

/-- R39, R45: the step of a layer that counts comes down to its countdown. -/
theorem stepLayer_of_counting {s : State} {l : Nat} (counts : (s.layer l).state = .running ∨ (s.layer l).state = .settled) :
    s.stepLayer l = (s.setLayer l (s.layer l).stepped).countFollow l := by
  have layer : (s.setLayer l (s.layer l).stepped).layer l = (s.layer l).stepped := by rw [layer_setLayer, if_pos rfl]
  have moving : (s.layer l).stepped.state ≠ .releasing := by
    rcases (stepped_counts counts).1 with h | h <;> rw [h] <;> exact nofun
  rw [stepLayer_eq, finishRelease_of_not_releasing (by rwa [layer])]

theorem stepLayer_runs_on {s : State} {l : Nat} (counts : (s.layer l).state = .running ∨ (s.layer l).state = .settled)
    (left : ∀ f, (s.layer l).followMs = some f → 4 < f) :
    s.stepLayer l = s.setLayer l { (s.layer l).stepped with followMs := (s.layer l).followMs.map (· - 4) } := by
  have layer : (s.setLayer l (s.layer l).stepped).layer l = (s.layer l).stepped := by rw [layer_setLayer, if_pos rfl]
  obtain ⟨still, follow⟩ := stepped_counts counts
  rw [stepLayer_of_counting counts, countFollow_runs_on (by rwa [layer]) (by rwa [layer, follow]), layer, setLayer_setLayer, follow]

theorem stepLayer_runs_out {s : State} {l : Nat} (counts : (s.layer l).state = .running ∨ (s.layer l).state = .settled) {f : Nat}
    (follow : (s.layer l).followMs = some f) (small : f ≤ 4) :
    s.stepLayer l = (s.setLayer l { (s.layer l).stepped with followMs := none }).reportedGo l .follow := by
  have layer : (s.setLayer l (s.layer l).stepped).layer l = (s.layer l).stepped := by rw [layer_setLayer, if_pos rfl]
  obtain ⟨still, same⟩ := stepped_counts counts
  rw [stepLayer_of_counting counts, countFollow_runs_out (by rwa [layer]) (by rw [layer, same]; exact follow) small,
    State.followTake, layer, setLayer_setLayer]

theorem reportedGo_taken {s v : State} {l : Nat} {i : TakeInfo} (h : s.goTake l = .taken v i) (source : TakeSource) :
    s.reportedGo l source = v.notify (.cueTaken l i.cue source .go) := by
  rw [State.reportedGo, h]

theorem reportedGo_refused {s : State} {l : Nat} {st : Status} {cue : Option Nat} (h : s.goTake l = .refused st cue)
    (source : TakeSource) : s.reportedGo l source = s.notify (.takeFailed l source none st cue) := by
  rw [State.reportedGo, h]

/-! ## The layer step -/

theorem showTime_iff (s : State) : s.showTime = true ↔ s.merge.mode ≠ .hold := by
  rw [State.showTime]
  cases s.merge.mode <;> simp

/-- R39: what a step that takes no cue leaves of a layer. -/
def Layer.step (y : Layer) : Layer :=
  if y.state = .releasing ∧ y.stepped.released then y.cleared
  else if y.counts then { y.stepped with followMs := y.followMs.map (· - 4) }
  else y.stepped

theorem step_of_still {y : Layer} (still : y.state = .idle ∨ y.state = .paused) : y.step = y := by
  have states : y.state ≠ .running ∧ y.state ≠ .releasing ∧ y.state ≠ .settled := by
    rcases still with h | h <;> rw [h] <;> exact ⟨nofun, nofun, nofun⟩
  obtain ⟨running, releasing, settled⟩ := states
  rw [Layer.step, if_neg fun now => releasing now.1,
    if_neg fun counts => ((counts_iff y).mp counts).elim running settled, stepped_of_still running releasing]

theorem step_of_counting {y : Layer} (counts : y.state = .running ∨ y.state = .settled) :
    y.step = { y.stepped with followMs := y.followMs.map (· - 4) } := by
  have moving : y.state ≠ .releasing := by rcases counts with h | h <;> rw [h] <;> exact nofun
  rw [Layer.step, if_neg fun now => moving now.1, if_pos ((counts_iff y).mpr counts)]

theorem step_of_releasing {y : Layer} (releasing : y.state = .releasing)
    (fading : ∃ x ∈ y.advancedSlots, x.attr = .intensity ∧ x.elapsedMs ≠ x.delayMs + x.fadeMs) :
    y.step = { y with slots := y.advancedSlots } := by
  have silent : ¬ y.counts = true := by
    rw [counts_iff, releasing]
    exact not_or.mpr ⟨nofun, nofun⟩
  rw [Layer.step, if_neg, if_neg silent, stepped_of_releasing releasing]
  rintro ⟨_, released⟩
  obtain ⟨x, hx, intensity, unfinished⟩ := fading
  rw [stepped_of_releasing releasing, released_iff] at released
  exact unfinished (released x hx intensity)

theorem step_of_released {y : Layer} (releasing : y.state = .releasing)
    (done : ∀ x ∈ y.advancedSlots, x.attr = .intensity → x.elapsedMs = x.delayMs + x.fadeMs) : y.step = y.cleared := by
  refine if_pos ⟨releasing, ?_⟩
  rw [stepped_of_releasing releasing]
  exact (released_iff _).mpr done

/-- A state whose take stack is replaced. -/
def State.withStack (s : State) (stack : List Nat) : State := { s with playback.takeStack := stack }

/-- R39: a step that takes no cue writes its layer and the take stack. -/
theorem stepLayer_silent {s : State} {l : Nat} (left : ∀ f, (s.layer l).followMs = some f → 4 < f) :
    ∃ stack, s.stepLayer l = (s.setLayer l (s.layer l).step).withStack stack := by
  cases state : (s.layer l).state with
  | idle => exact ⟨_, (stepLayer_of_still (.inl state)).trans (by rw [step_of_still (.inl state)]; rfl)⟩
  | paused => exact ⟨_, (stepLayer_of_still (.inr state)).trans (by rw [step_of_still (.inr state)]; rfl)⟩
  | running => exact ⟨_, (stepLayer_runs_on (.inl state) left).trans (by rw [step_of_counting (.inl state)]; rfl)⟩
  | settled => exact ⟨_, (stepLayer_runs_on (.inr state) left).trans (by rw [step_of_counting (.inr state)]; rfl)⟩
  | releasing =>
    by_cases fading : ∃ x ∈ (s.layer l).advancedSlots, x.attr = .intensity ∧ x.elapsedMs ≠ x.delayMs + x.fadeMs
    · exact ⟨_, (stepLayer_of_releasing state fading).trans (by rw [step_of_releasing state fading]; rfl)⟩
    · push Not at fading
      exact ⟨_, (stepLayer_of_released state fading).trans (by rw [step_of_released state fading]; rfl)⟩

theorem withStack_layer (stack : List Nat) (k : Nat) : (s.withStack stack).layer k = s.layer k := rfl

/-- R39: layers stepped one after another, none of which takes a cue. -/
theorem foldl_stepLayer_silent {ls : List Nat} (once : ls.Nodup) {s : State}
    (left : ∀ l ∈ ls, ∀ f, (s.layer l).followMs = some f → 4 < f) :
    SameBut State.sansPlayback s (ls.foldl State.stepLayer s)
      ∧ ∀ k, (ls.foldl State.stepLayer s).layer k = if k ∈ ls then (s.layer k).step else s.layer k := by
  induction ls generalizing s with
  | nil => exact ⟨.refl s, fun k => by simp⟩
  | cons l ls ih =>
    obtain ⟨fresh, once⟩ := List.nodup_cons.mp once
    obtain ⟨own, later⟩ := List.forall_mem_cons.mp left
    obtain ⟨stack, stepped⟩ := stepLayer_silent own
    have layer (k : Nat) : (s.stepLayer l).layer k = if k = l then (s.layer l).step else s.layer k := by
      rw [stepped, withStack_layer, layer_setLayer]
    have rest := ih once (s := s.stepLayer l) fun k hk f follow => by
      rw [layer, if_neg fun e : k = l => fresh (e ▸ hk)] at follow
      exact later k hk f follow
    have first : SameBut State.sansPlayback s (s.stepLayer l) := by rw [stepped]; rfl
    rw [List.foldl_cons]
    refine ⟨SameBut.trans first rest.1, fun k => ?_⟩
    rw [rest.2, layer]
    by_cases e : k = l
    · rw [if_neg (by rw [e]; exact fresh), if_pos e, if_pos (by simp [e]), e]
    · rw [if_neg e]
      simp only [List.mem_cons, e, false_or]

/-- R39: the step timer runs on. -/
def State.withStepTimer (s : State) : State := { s with playback.stepTimer := s.now + 4000 }

theorem layerStep_hold {s : State} (hold : s.merge.mode = .hold) : s.layerStep = s.withStepTimer := by
  have still : ¬ s.withStepTimer.showTime = true := fun h => (showTime_iff _).mp h hold
  exact if_neg still

theorem layerStep_runs {s : State} (runs : s.merge.mode ≠ .hold) : s.layerStep = layerIds.foldl State.stepLayer s.withStepTimer :=
  if_pos ((showTime_iff s.withStepTimer).mpr runs)

theorem mem_advancedSlots_of_fading {y : Layer} {x : Slot} (hx : x ∈ y.slots) (fading : x.elapsedMs + 4 < x.delayMs + x.fadeMs) :
    { x with elapsedMs := x.elapsedMs + 4 } ∈ y.advancedSlots := by
  refine List.mem_map.mpr ⟨x, hx, ?_⟩
  rw [min_eq_left fading.le]

theorem advancedSlots_done {x : Slot} (left : x.delayMs + x.fadeMs ≤ x.elapsedMs + 4) :
    min (x.elapsedMs + 4) (x.delayMs + x.fadeMs) = x.delayMs + x.fadeMs := min_eq_right left

/-- R52: the layer left IDLE keeps its settings alone. -/
theorem cleared_eq (y : Layer) : y.cleared = ⟨y.settings, .idle, none, 0, none, none, none, []⟩ := rfl

/-- Settles O32: `Layer.step` is what a silent step leaves of a layer. -/
theorem layerStepAdvancesFades : Obligations.LayerStepAdvancesFades := by
  refine ⟨fun t s => ⟨fun hold => ?_, fun runs left => ?_⟩, fun t s runs => ?_, fun s l => ?_⟩
  · show Host.Outcome.next (s.advance t).layerStep.startTransmit = _
    rw [layerStep_hold (s := s.advance t) hold]
    rfl
  · obtain ⟨same, layers⟩ := foldl_stepLayer_silent (ls := layerIds) List.nodup_range (s := (s.advance t).withStepTimer)
      fun l hl => left l (List.mem_range.mp hl)
    have stepped (l : Nat) (hl : l < 12) : (layerIds.foldl State.stepLayer (s.advance t).withStepTimer).layer l = (s.layer l).step :=
      (layers l).trans (if_pos (List.mem_range.mpr hl))
    refine ⟨layerIds.foldl State.stepLayer (s.advance t).withStepTimer, ?_, same.read State.link fun _ => rfl,
      same.read State.cues fun _ => rfl, same.read State.patch fun _ => rfl, same.read State.merge fun _ => rfl,
      same.read State.limiter fun _ => rfl, same.read State.inputs fun _ => rfl, same.read State.lines fun _ => rfl,
      same.read State.supervision fun _ => rfl, same.read State.zones fun _ => rfl, same.read State.effects fun _ => rfl,
      same.read State.store fun _ => rfl, fun l hl still => (stepped l hl).trans (step_of_still still), fun l hl settled => ?_,
      fun l hl running x hx fading => ?_, fun l hl running done => ?_, fun l hl => ⟨(s.layer l).advancedSlots, rfl,
        fun running fading => ?_, fun running done => ?_,
        fun releasing fading => (stepped l hl).trans (step_of_releasing releasing fading)⟩,
      fun l hl releasing done => ?_⟩
    · show Host.Outcome.next (s.advance t).layerStep.startTransmit = _
      rw [layerStep_runs (s := s.advance t) runs]
    · rw [stepped l hl, step_of_counting (.inr settled),
        stepped_of_still (by rw [settled]; exact nofun) (by rw [settled]; exact nofun)]
    · have moved := mem_advancedSlots_of_fading hx fading
      have unfinished : ({ x with elapsedMs := x.elapsedMs + 4 } : Slot).elapsedMs ≠ x.delayMs + x.fadeMs := fading.ne
      rw [stepped l hl, step_of_counting (.inl running), stepped_of_running running ⟨_, moved, unfinished⟩]
      exact ⟨running, List.mem_filter.mpr ⟨moved, by simp [unfinished]⟩⟩
    · have finished : ∀ x ∈ (s.layer l).advancedSlots, x.elapsedMs = x.delayMs + x.fadeMs := by
        refine List.forall_mem_map.mpr fun x hx => min_eq_right (done x hx).2
      rw [stepped l hl, step_of_counting (.inl running), stepped_of_finished running finished]
      exact ⟨rfl, fun y hy => of_decide_eq_true (List.mem_filter.mp hy).2⟩
    · rw [stepped l hl, step_of_counting (.inl running), stepped_of_running running fading]
      rfl
    · rw [stepped l hl, step_of_counting (.inl running), stepped_of_finished running done]
    · rw [stepped l hl, step_of_released releasing
        (List.forall_mem_map.mpr fun x hx intensity => min_eq_right (done x hx intensity).2), cleared_eq]
  · show Host.Outcome.next (s.advance t).layerStep.startTransmit = _
    rw [layerStep_runs (s := s.advance t) runs]
    rfl
  · refine ⟨(s.layer l).advancedSlots, (s.layer l).stepped, rfl, stepLayer_of_still, stepLayer_of_releasing,
      fun releasing done => ⟨_, rfl, stepLayer_of_released releasing done⟩, fun settled => stepped_of_still
        (by rw [settled]; exact nofun) (by rw [settled]; exact nofun), stepped_of_running, stepped_of_finished,
      fun counts => ⟨fun none => ?_, fun f follow => ⟨fun big => ?_, fun small => ?_⟩⟩⟩
    · have same := (stepped_counts counts).2
      rw [stepLayer_runs_on counts (by rw [none]; exact nofun), none, Option.map_none, ← none, ← same]
    · rw [stepLayer_runs_on counts (by rw [follow]; rintro _ ⟨⟩; exact big), follow]
      rfl
    · refine ⟨_, _, rfl, rfl, fun v i taken => ?_, fun st cue refused => ?_⟩
      · rw [stepLayer_runs_out counts follow small, reportedGo_taken taken]
      · rw [stepLayer_runs_out counts follow small, reportedGo_refused refused]

/-! ## Counts that run out -/

theorem followExpiry_due {s : State} {l f : Nat} (runs : s.merge.mode ≠ .hold)
    (counts : (s.layer l).state = .running ∨ (s.layer l).state = .settled) (follow : (s.layer l).followMs = some f) (small : f ≤ 4) :
    s.followExpiry l = s.followTake l := by
  have due : (s.layer l).followDue = true := (followDue_iff _).mpr ⟨(counts_iff _).mpr counts, f, follow, small⟩
  rw [State.followExpiry, (showTime_iff s).mpr runs, due]
  rfl

theorem followExpiry_early {s : State} {l f : Nat} (follow : (s.layer l).followMs = some f) (big : 4 < f) : s.followExpiry l = s := by
  have early : ¬ (s.layer l).followDue = true := fun due => by
    obtain ⟨_, g, other, small⟩ := (followDue_iff _).mp due
    rw [follow] at other
    obtain rfl := Option.some.inj other
    exact big.not_ge small
  rw [State.followExpiry, Bool.eq_false_of_not_eq_true early, Bool.and_false]
  rfl

theorem chases_iff (y : Layer) : y.chases = true ↔ y.settings.mode = .chase ∧ (y.state = .running ∨ y.state = .settled) := by
  rw [Layer.chases, Bool.and_eq_true, decide_eq_true_iff, counts_iff]

theorem chaseExpiry_due {s : State} {l : Nat} (runs : s.merge.mode ≠ .hold)
    (counts : (s.layer l).state = .running ∨ (s.layer l).state = .settled) (chase : (s.layer l).settings.mode = .chase)
    (full : (s.layer l).settings.chaseBeats ≤ (s.layer l).chaseCount + 1) : s.chaseExpiry l = s.chaseTake l := by
  have due : (s.layer l).chaseDue = true := (chaseDue_iff _).mpr ⟨(chases_iff _).mpr ⟨chase, counts⟩, full⟩
  rw [State.chaseExpiry, (showTime_iff s).mpr runs, due]
  rfl

theorem chaseExpiry_early {s : State} {l : Nat} (small : (s.layer l).chaseCount + 1 < (s.layer l).settings.chaseBeats) :
    s.chaseExpiry l = s := by
  have early : ¬ (s.layer l).chaseDue = true := fun due => small.not_ge ((chaseDue_iff _).mp due).2
  rw [State.chaseExpiry, Bool.eq_false_of_not_eq_true early, Bool.and_false]
  rfl

/-- Settles O33. -/
theorem expiriesTakeTheNextCue : Obligations.ExpiriesTakeTheNextCue := by
  intro t l s runs counts
  have follows : ∀ u, (s.advance t).followExpiry l = u → exec (.followExpiry t l) s = .next u.startTransmit :=
    fun u h => congrArg (fun v : State => Host.Outcome.next v.startTransmit) h
  have chases : ∀ u, (s.advance t).chaseExpiry l = u → exec (.chaseCountExpiry t l) s = .next u.startTransmit :=
    fun u h => congrArg (fun v : State => Host.Outcome.next v.startTransmit) h
  refine ⟨fun f follow => ⟨fun big => follows _ (followExpiry_early (s := s.advance t) follow big), fun small => ?_⟩,
    fun chase => ⟨fun small => chases _ (chaseExpiry_early (s := s.advance t) small), fun full => ?_⟩⟩
  · have due := followExpiry_due (s := s.advance t) runs counts follow small
    exact ⟨_, rfl, fun v i taken => follows _ (due.trans (reportedGo_taken taken _)),
      fun st cue refused => follows _ (due.trans (reportedGo_refused refused _))⟩
  · have due := chaseExpiry_due (s := s.advance t) runs counts chase full
    exact ⟨_, rfl, fun v i taken => chases _ (due.trans (reportedGo_taken taken _)),
      fun st cue refused => chases _ (due.trans (reportedGo_refused refused _))⟩

end Sys2Proof.Machine
end

section
/-! SUPPORT. The merge requests and the douse line (R64 to R73), the merged target (R58 to R61) and the limiter step (R78). -/

namespace Sys2Proof.Machine

open Sys2Proof

variable (s : State)

/-! ## The douse latch -/

theorem setDouseLatch_unchanged {s : State} {v : Bool} (h : s.merge.douseLatch = v) (c : DouseCause) : s.setDouseLatch v c = s :=
  if_pos h

theorem setDouseLatch_changed {s : State} {v : Bool} (h : s.merge.douseLatch ≠ v) (c : DouseCause) :
    s.setDouseLatch v c = ({ s with merge.douseLatch := v }).notify (.douse v s.merge.douseLine c) :=
  if_neg h

/-- R70: a line that asserts under a latch that is CLEAR. -/
theorem assertDouse_sets {s : State} (latch : s.merge.douseLatch = false) :
    s.assertDouse = ({ s with merge := { s.merge with douseLatch := true, douseLine := true } }).notify (.douse true true .line) :=
  setDouseLatch_changed (s := { s with merge.douseLine := true }) (show s.merge.douseLatch ≠ true by rw [latch]; exact nofun) _

theorem assertDouse_latched {s : State} (latch : s.merge.douseLatch = true) :
    s.assertDouse = { s with merge := { s.merge with douseLine := true } } :=
  setDouseLatch_unchanged (s := { s with merge.douseLine := true }) latch _

/-- R71: CLEAR DOUSE while the line is asserted. -/
theorem ownClearDouse_held {s : State} (line : s.merge.douseLine = true) (tag : Byte) :
    ownClearDouse tag s = (s, .reply .wrongState (.douse true s.merge.douseLatch)) :=
  if_pos line

theorem ownClearDouse_clears {s : State} (line : s.merge.douseLine = false) (tag : Byte) :
    ownClearDouse tag s = accept (s.setDouseLatch false .clear) (.douse false false) := by
  rw [ownClearDouse, if_neg (by rw [line]; exact nofun)]
  dsimp only
  rw [setDouseLatch_merge, line]

/-- Settles O35, request by request and edge by edge. -/
theorem mergeRequestsSetMaskModeAndLatch : Obligations.MergeRequestsSetMaskModeAndLatch := by
  refine ⟨fun t tag v s admits => ?_, fun t tag s admits => ⟨?_, ?_, ?_⟩,
    fun t tag s => ⟨fun latch => ?_, fun latch => ?_, rfl, fun admits line => ?_, fun admits line latch => ?_,
      fun admits line latch => ?_⟩⟩
  · have served := request_reply s t tag 0x40#8 (ownSetMask v) _ _ _ admits rfl
    rw [okOrClamped_clamps] at served
    exact served
  · exact request_reply s t tag 0x41#8 (ownMode .hold) _ _ _ admits rfl
  · exact request_reply s t tag 0x42#8 (ownMode .park) _ _ _ admits rfl
  · exact request_reply s t tag 0x43#8 (ownMode .run) _ _ _ admits rfl
  · exact congrArg (fun v : State => Host.Outcome.next v.startTransmit) (assertDouse_sets (s := s.advance t) latch)
  · exact congrArg (fun v : State => Host.Outcome.next v.startTransmit) (assertDouse_latched (s := s.advance t) latch)
  · exact request_reply s t tag 0x44#8 ownClearDouse _ _ _ admits (ownClearDouse_held (s := s.advance t) line tag)
  · refine request_reply s t tag 0x44#8 ownClearDouse _ _ _ admits ?_
    rw [ownClearDouse_clears (s := s.advance t) line, setDouseLatch_changed (s := s.advance t)
      (show s.merge.douseLatch ≠ false by rw [latch]; exact nofun), show (s.advance t).merge.douseLine = false from line]
    rfl
  · refine request_reply s t tag 0x44#8 ownClearDouse _ _ _ admits ?_
    rw [ownClearDouse_clears (s := s.advance t) line, setDouseLatch_unchanged (s := s.advance t) latch]
    rfl

/-! ## Largest of a list -/

/-- A maximum folded over a list bounds its start and every element, and is one of them. -/
theorem foldl_max_spec {α : Type} (f : α → Nat) (l : List α) (start : Nat) :
    start ≤ l.foldl (fun m c => max m (f c)) start ∧ (∀ c ∈ l, f c ≤ l.foldl (fun m c => max m (f c)) start)
      ∧ (l.foldl (fun m c => max m (f c)) start = start ∨ ∃ c ∈ l, l.foldl (fun m c => max m (f c)) start = f c) := by
  induction l generalizing start with
  | nil => exact ⟨le_refl _, nofun, .inl rfl⟩
  | cons x xs ih =>
    obtain ⟨above, bounds, attained⟩ := ih (max start (f x))
    rw [List.foldl_cons]
    refine ⟨(le_max_left _ _).trans above, List.forall_mem_cons.mpr ⟨(le_max_right _ _).trans above, bounds⟩, ?_⟩
    rcases attained with same | ⟨c, hc, same⟩
    · rcases max_choice start (f x) with first | second
      · exact .inl (same.trans first)
      · exact .inr ⟨x, List.mem_cons_self, same.trans second⟩
    · exact .inr ⟨c, List.mem_cons_of_mem _ hc, same⟩

/-! ## The merged intensity -/

theorem highestPart_ge {cands : List Contribution} {c : Contribution} (hc : c ∈ cands) (highest : c.intensityMode = .highest) :
    c.scaled ≤ highestPart cands :=
  (foldl_max_spec Contribution.scaled _ 0).2.1 c (List.mem_filter.mpr ⟨hc, by rw [highest]; rfl⟩)

theorem highestPart_attained (cands : List Contribution) :
    highestPart cands = 0 ∨ ∃ c ∈ cands, c.intensityMode = .highest ∧ highestPart cands = c.scaled := by
  refine (foldl_max_spec Contribution.scaled (cands.filter fun c => c.intensityMode == .highest) 0).2.2.imp id ?_
  rintro ⟨c, hc, same⟩
  obtain ⟨member, highest⟩ := List.mem_filter.mp hc
  exact ⟨c, member, eq_of_beq highest, same⟩

theorem latestPart_of_last {cands : List Contribution} {c : Contribution}
    (last : (cands.filter (fun c => c.intensityMode == .latest)).getLast? = some c) : latestPart cands = c.scaled := by
  rw [latestPart, last]

theorem latestPart_attained (cands : List Contribution) :
    latestPart cands = 0 ∨ ∃ c, (cands.filter (fun c => c.intensityMode == .latest)).getLast? = some c
      ∧ latestPart cands = c.scaled := by
  cases last : (cands.filter (fun c => c.intensityMode == .latest)).getLast? with
  | none => exact .inl (by rw [latestPart, last])
  | some c => exact .inr ⟨c, rfl, latestPart_of_last last⟩

/-- Settles O36: the merged intensity is the maximum of its two parts. -/
theorem mergedIntensityIsTheLargerPart : Obligations.MergedIntensityIsTheLargerPart := by
  intro s h
  refine ⟨_, rfl, mergedIntensity (candidates (s.contributing h .intensity)), rfl, fun none => by rw [none]; rfl,
    fun c hc highest => (highestPart_ge hc highest).trans (le_max_left _ _),
    fun c last => (latestPart_of_last last).symm.le.trans (le_max_right _ _), ?_⟩
  generalize candidates (s.contributing h .intensity) = cands
  rcases max_choice (highestPart cands) (latestPart cands) with larger | larger
  · rw [mergedIntensity, larger]
    exact (highestPart_attained cands).imp id .inl
  · rw [mergedIntensity, larger]
    exact (latestPart_attained cands).imp id .inr

/-! ## Contributing layers and candidates -/

theorem contribution_eq_some {s : State} {h : Nat} {a : Attr} {l : Nat} {c : Contribution} :
    s.contribution h a l = some c ↔ (s.layer l).state ≠ .idle ∧ s.merge.mask < (s.layer l).settings.precedence
      ∧ ∃ x, slotFor (s.layer l).slots h a = some x ∧ c = ⟨l, (s.layer l).settings.precedence, x.value,
        (s.layer l).settings.master, (s.layer l).settings.intensityMode⟩ := by
  rw [State.contribution]
  by_cases silent : (s.layer l).state = .idle ∨ (s.layer l).settings.precedence ≤ s.merge.mask
  · rw [if_pos silent]
    refine ⟨nofun, ?_⟩
    rintro ⟨active, masked, _⟩
    exact (silent.elim active masked.not_ge).elim
  · obtain ⟨active, masked⟩ := not_or.mp silent
    rw [if_neg silent, Option.map_eq_some_iff]
    exact ⟨fun ⟨x, found, same⟩ => ⟨active, Nat.lt_of_not_le masked, x, found, same.symm⟩,
      fun ⟨_, _, x, found, same⟩ => ⟨x, found, same.symm⟩⟩

theorem contribution_layer {s : State} {h : Nat} {a : Attr} {l : Nat} {c : Contribution}
    (contributes : s.contribution h a l = some c) : c.layer = l := by
  obtain ⟨_, _, _, _, rfl⟩ := contribution_eq_some.mp contributes
  rfl

theorem mem_contributing {h : Nat} {a : Attr} {c : Contribution} : c ∈ s.contributing h a ↔
    c.layer ∈ s.playback.takeStack ∧ (s.layer c.layer).state ≠ .idle ∧ s.merge.mask < (s.layer c.layer).settings.precedence
      ∧ ∃ x, slotFor (s.layer c.layer).slots h a = some x ∧ c = ⟨c.layer, (s.layer c.layer).settings.precedence, x.value,
        (s.layer c.layer).settings.master, (s.layer c.layer).settings.intensityMode⟩ := by
  rw [State.contributing, List.mem_filterMap]
  constructor
  · rintro ⟨l, stacked, contributes⟩
    obtain rfl := contribution_layer contributes
    exact ⟨stacked, contribution_eq_some.mp contributes⟩
  · rintro ⟨stacked, contributes⟩
    exact ⟨c.layer, stacked, contribution_eq_some.mpr contributes⟩

/-- Names read off the kept elements of a list form a sublist of it. -/
theorem map_filterMap_sublist {α β : Type} (f : α → Option β) (g : β → α) (same : ∀ a b, f a = some b → g b = a)
    (l : List α) : ((l.filterMap f).map g).Sublist l := by
  induction l with
  | nil => exact .slnil
  | cons x xs ih =>
    cases kept : f x with
    | none => rw [List.filterMap_cons_none kept]; exact ih.cons x
    | some b => rw [List.filterMap_cons_some kept, List.map_cons, same x b kept]; exact ih.cons_cons x

theorem mem_candidates {cs : List Contribution} {c : Contribution} :
    c ∈ candidates cs ↔ c ∈ cs ∧ ∀ d ∈ cs, d.precedence ≤ c.precedence := by
  obtain ⟨_, bounds, attained⟩ := foldl_max_spec Contribution.precedence cs 0
  rw [candidates, List.mem_filter, beq_iff_eq]
  refine and_congr_right fun member => ⟨fun top d hd => top ▸ bounds d hd, fun highest => ?_⟩
  refine (bounds c member).antisymm ?_
  rcases attained with zero | ⟨d, hd, same⟩
  · exact zero.le.trans (Nat.zero_le _)
  · exact same.le.trans (highest d hd)

theorem latestValue_of_last {cands : List Contribution} {c : Contribution} (last : cands.getLast? = some c) (v : Val) :
    latestValue cands v = c.value := by
  rw [latestValue, last]

/-- Settles O37. -/
theorem mergedAnglesAndColourFollowTheLatest : Obligations.MergedAnglesAndColourFollowTheLatest := by
  refine fun s h a => ⟨fun c => mem_contributing s, map_filterMap_sublist _ _ (fun _ _ => contribution_layer) _,
    fun c => mem_candidates, List.filter_sublist, fun c other last => ?_, fun none => ?_, fun none => ?_, fun none => ?_⟩
  · cases a with
    | intensity => exact absurd rfl other
    | pan => exact latestValue_of_last last _
    | tilt => exact latestValue_of_last last _
    | colour => exact latestValue_of_last last _
  · rw [State.mergedTarget, none]
    rfl
  · rw [State.mergedTarget, none]
    rfl
  · rw [State.mergedTarget, none]
    rfl

/-! ## The limiter step -/

theorem rawTarget_pan (h : Nat) : s.rawTarget h .pan =
    if s.merge.mode = .park then (s.headPatch h).parkPan else (s.mergedTarget h .pan).num := by
  cases mode : s.merge.mode <;> simp [State.rawTarget, mode]

theorem rawTarget_tilt (h : Nat) : s.rawTarget h .tilt =
    if s.merge.mode = .park then (s.headPatch h).parkTilt else (s.mergedTarget h .tilt).num := by
  cases mode : s.merge.mode <;> simp [State.rawTarget, mode]

theorem nextVelocity_step (A : Nat) (v w : Int) : (nextVelocity A v w - v).natAbs ≤ A := by
  rw [nextVelocity]
  split
  · omega
  · split <;> omega

/-- R81: a step changes a velocity by at most the acceleration, unless it takes it to 0. -/
theorem stepAxis_velocity (S A r T : Nat) (x : Axis) :
    (stepAxis S A r T x).velocity = 0 ∨ ((stepAxis S A r T x).velocity - x.velocity).natAbs ≤ A := by
  by_cases rest : (T : Int) - x.position = 0 ∧ x.velocity = 0
  · rw [stepAxis_of_rest S A r rest.1 rest.2]
    exact .inl rest.2
  · rw [stepAxis, if_neg rest]
    dsimp only
    split
    · exact .inl rfl
    · split
      · exact .inl rfl
      · split
        · exact .inl rfl
        · exact .inr (nextVelocity_step _ _ _)

theorem steppedMotion_of {s : State} {h : Nat} {q : Personality} {m : Motion} (hq : s.personalityOf h = some q)
    (hm : s.motion h = some m) : s.steppedMotion h = some (s.stepHead h q m) := by
  rw [State.steppedMotion, hq, hm]

/-- Settles O38. -/
theorem limiterStepMovesPatchedHeads : Obligations.LimiterStepMovesPatchedHeads := by
  refine fun t s => ⟨(s.advance t).limiterStep, rfl, rfl, rfl, fun h unpatched => ?_, fun h q m hq hm => ?_⟩
  · rw [limiterStep_motion, if_neg (show ¬ (s.advance t).patched h = true from ne_true_of_eq_false unpatched)]
    rfl
  · refine ⟨(s.advance t).stepHead h q m, ?_, ?_, ?_, rfl, stepAxis_velocity _ _ _ _ _, stepAxis_velocity _ _ _ _ _⟩
    · rw [limiterStep_motion, if_pos (patched_of_personalityOf (s.advance t) hq), steppedMotion_of (s := s.advance t) hq hm]
    · rw [← show (s.advance t).rawTarget h .pan = _ from rawTarget_pan s h]
      rfl
    · rw [← show (s.advance t).rawTarget h .tilt = _ from rawTarget_tilt s h]
      rfl

end Sys2Proof.Machine
end

section
/-! SUPPORT. The zone requests (R97 to R101), and what a frame build makes of a patched head (R94, R103 to R107, R112 to R116). -/

namespace Sys2Proof.Machine

open Sys2Proof

variable (s : State)

/-! ## Zone requests -/

theorem checkSetZone_locked {s : State} (locked : s.zones.writeEnable = false) (z : ZoneReq) :
    s.checkSetZone z = some .zoneLocked :=
  if_pos (ne_true_of_eq_false locked)

theorem checkClearZone_locked {s : State} (locked : s.zones.writeEnable = false) (k : Nat) :
    s.checkClearZone k = some .zoneLocked :=
  if_pos (ne_true_of_eq_false locked)

theorem checkSetZone_busy {s : State} (enabled : s.zones.writeEnable = true) (busy : s.storeBusy = true) (z : ZoneReq) :
    s.checkSetZone z = some .storeBusy := by
  rw [State.checkSetZone, if_neg (not_not.mpr enabled), if_pos busy]

theorem checkClearZone_busy {s : State} (enabled : s.zones.writeEnable = true) (busy : s.storeBusy = true) (k : Nat) :
    s.checkClearZone k = some .storeBusy := by
  rw [State.checkClearZone, if_neg (not_not.mpr enabled), if_pos busy]

theorem checkClearZone_ready {s : State} (enabled : s.zones.writeEnable = true) (free : s.storeBusy = false) (k : Nat) :
    s.checkClearZone k = if 32 ≤ k then some .badField else none := by
  rw [State.checkClearZone, if_neg (not_not.mpr enabled), if_neg (ne_true_of_eq_false free)]
  rfl

theorem checkSetZone_ready {s : State} (enabled : s.zones.writeEnable = true) (free : s.storeBusy = false) (z : ZoneReq) :
    s.checkSetZone z = if 32 ≤ z.zone ∨ 64 ≤ z.group ∨ z.active = none ∨ z.panMax < z.panMin ∨ z.tiltMax < z.tiltMin
      then some .badField else none := by
  rw [State.checkSetZone, if_neg (not_not.mpr enabled), if_neg (ne_true_of_eq_false free), ← ite_or]
  exact if_congr (by rw [show Config.zones = 32 from rfl, show Config.groups = 64 from rfl]; tauto) rfl rfl

theorem ownClearZone_fails {s : State} {k : Nat} {status : Status} (h : s.checkClearZone k = some status) (tag : Byte) :
    ownClearZone k tag s = (s.withZoneWrite false, .reply status (.zoneLatch false)) := by
  rw [ownClearZone, h]

theorem ownClearZone_passes {s : State} {k : Nat} (h : s.checkClearZone k = none) (tag : Byte) :
    ownClearZone k tag s = accept ((s.setZone k Zone.cleared).withZoneWrite false) (.zoneLatch false) := by
  rw [ownClearZone, h]

theorem ownSetZone_fails {s : State} {z : ZoneReq} {status : Status} (h : s.checkSetZone z = some status) (tag : Byte) :
    ownSetZone z tag s = (s.withZoneWrite false, .reply status (.zoneLatch false)) := by
  rw [ownSetZone, h]

/-- Settles O40. -/
theorem enableAndClearZone : Obligations.EnableAndClearZone := by
  refine ⟨fun t tag s admits => request_reply s t tag 0x48#8 ownEnableZoneWrite _ _ _ admits rfl, fun t tag k s admits =>
    ⟨fun locked => ?_, fun enabled busy => ?_, fun enabled free bad => ?_, fun enabled free good => ?_⟩⟩
  · exact request_reply s t tag 0x4A#8 (ownClearZone k) _ _ _ admits
      (ownClearZone_fails (checkClearZone_locked (s := s.advance t) locked k) tag)
  · exact request_reply s t tag 0x4A#8 (ownClearZone k) _ _ _ admits
      (ownClearZone_fails (checkClearZone_busy (s := s.advance t) enabled busy k) tag)
  · exact request_reply s t tag 0x4A#8 (ownClearZone k) _ _ _ admits
      (ownClearZone_fails ((checkClearZone_ready (s := s.advance t) enabled free k).trans (if_pos bad)) tag)
  · exact request_reply s t tag 0x4A#8 (ownClearZone k) _ _ _ admits
      (ownClearZone_passes ((checkClearZone_ready (s := s.advance t) enabled free k).trans (if_neg good.not_ge)) tag)

theorem clamp_zero_natCast (hi n : Nat) : clamp 0 hi n = min n hi := by
  rw [clamp]
  split
  · omega
  · split <;> omega

theorem clamps_zero_natCast (hi n : Nat) : clamps 0 hi n = true ↔ hi < n := by
  rw [clamps, Bool.or_eq_true, decide_eq_true_iff, decide_eq_true_iff]
  omega

/-- R100: each bound of the stored record is the smaller of the bound asked for and 72,000. -/
theorem zoneRecord_eq (z : ZoneReq) (on : Bool) : zoneRecord z on = ⟨on, z.group, min z.panMin.toNat 72000,
    min z.panMax.toNat 72000, min z.tiltMin.toNat 72000, min z.tiltMax.toNat 72000⟩ := by
  simp only [zoneRecord, Config.maxAngle, clamp_zero_natCast]

theorem okOrClamped_zoneClamps (z : ZoneReq) : okOrClamped (zoneClamps z) =
    if 72000 < z.panMin.toNat ∨ 72000 < z.panMax.toNat ∨ 72000 < z.tiltMin.toNat ∨ 72000 < z.tiltMax.toNat
      then .clamped else .ok := by
  refine if_congr ?_ rfl rfl
  simp only [zoneClamps, Bool.or_eq_true, Config.maxAngle, clamps_zero_natCast, or_assoc]

/-- Settles O41: each failing check answers with its status, and none leaves the record's clamped bounds. -/
theorem setZoneUsesUpTheEnable : Obligations.SetZoneUsesUpTheEnable := by
  refine fun t tag z s admits => ⟨fun locked => ?_, fun enabled busy => ?_, fun enabled free bad => ?_,
    fun on enabled free zone group active pan tilt => ⟨_, rfl, ?_⟩⟩
  · exact request_reply s t tag 0x49#8 (ownSetZone z) _ _ _ admits
      (ownSetZone_fails (checkSetZone_locked (s := s.advance t) locked z) tag)
  · exact request_reply s t tag 0x49#8 (ownSetZone z) _ _ _ admits
      (ownSetZone_fails (checkSetZone_busy (s := s.advance t) enabled busy z) tag)
  · exact request_reply s t tag 0x49#8 (ownSetZone z) _ _ _ admits
      (ownSetZone_fails ((checkSetZone_ready (s := s.advance t) enabled free z).trans (if_pos bad)) tag)
  · have passes : (s.advance t).checkSetZone z = none := by
      rw [checkSetZone_ready (s := s.advance t) enabled free z, if_neg]
      rintro (bad | bad | bad | bad | bad)
      · exact zone.not_ge bad
      · exact group.not_ge bad
      · rw [active] at bad
        cases bad
      · exact BitVec.not_lt.mpr pan bad
      · exact BitVec.not_lt.mpr tilt bad
    rw [← zoneRecord_eq, ← okOrClamped_zoneClamps]
    refine request_reply s t tag 0x49#8 (ownSetZone z) _ _ _ admits ?_
    rw [ownSetZone, passes, active, show (some on == some true) = on by cases on <;> rfl]

/-! ## Dark heads -/

theorem contains_iff (z : Zone) (pan tilt : Nat) :
    z.contains pan tilt = true ↔ z.panMin ≤ pan ∧ pan ≤ z.panMax ∧ z.tiltMin ≤ tilt ∧ tilt ≤ z.tiltMax := by
  rw [Zone.contains, Bool.and_eq_true, decide_eq_true_iff, decide_eq_true_iff, and_assoc]

theorem mem_zonesOf {h z : Nat} : z ∈ s.zonesOf h ↔ z < 32 ∧ (s.zone z).active = true
    ∧ (s.group (s.zone z).group).getLsbD h = true ∧ s.patched h = true
    ∧ ∃ m, s.motion h = some m ∧ (s.zone z).panMin ≤ m.pan.position ∧ m.pan.position ≤ (s.zone z).panMax
      ∧ (s.zone z).tiltMin ≤ m.tilt.position ∧ m.tilt.position ≤ (s.zone z).tiltMax := by
  rw [State.zonesOf, List.mem_filter, List.mem_range, State.inZone, Bool.and_eq_true, Bool.and_eq_true, Bool.and_eq_true,
    Option.any_eq_true _ _]
  simp only [contains_iff, and_assoc]
  rfl

theorem mem_ite_singleton {α : Type} {c : Prop} [Decidable c] {a x : α} : x ∈ (if c then [a] else []) ↔ c ∧ x = a := by
  split <;> simp [*]

/-- R106: a condition forces a head while it holds. -/
theorem mem_forcing {h : Nat} {f : Forcing} : f ∈ s.forcing h ↔ (s.merge.douseLatch = true ∧ f = .douse)
    ∨ (s.merge.mode = .park ∧ f = .park) ∨ ((s.watch h).condition = .homing ∧ f = .homing)
    ∨ ((s.watch h).condition = .faulted ∧ f = .faulted) ∨ ((∃ z, z ∈ s.zonesOf h) ∧ f = .zone) := by
  have zones : f ∈ (if (s.zonesOf h).isEmpty = true then [] else [Forcing.zone]) ↔ (∃ z, z ∈ s.zonesOf h) ∧ f = .zone := by
    cases s.zonesOf h <;> simp
  rw [State.forcing, List.mem_append, List.mem_append, List.mem_append, List.mem_append, mem_ite_singleton, mem_ite_singleton,
    mem_ite_singleton, mem_ite_singleton, zones, or_assoc, or_assoc, or_assoc]

/-- R106: what forces a head dark. -/
theorem forcedDark_iff (h : Nat) : s.forcedDark h = true ↔ s.merge.douseLatch = true ∨ s.merge.mode = .park
    ∨ (s.watch h).condition = .homing ∨ (s.watch h).condition = .faulted ∨ ∃ z, z ∈ s.zonesOf h := by
  rw [State.forcedDark, Bool.not_eq_true', ← Bool.not_eq_true, List.isEmpty_iff, List.eq_nil_iff_forall_not_mem, not_forall_not]
  simp only [mem_forcing, exists_or, exists_eq_right]

theorem hasDimmer_iff (q : Personality) : q.hasDimmer = true ↔ ∃ r ∈ q.channelMap, r.role = .dimmer := by
  rw [Personality.hasDimmer, List.any_eq_true]
  simp only [beq_iff_eq]

theorem scalesEmitters_iff (q : Personality) :
    q.scalesEmitters = true ↔ (∀ r ∈ q.channelMap, r.role ≠ .dimmer) ∧ q.system ≠ .subtractiveCmy := by
  rw [Personality.scalesEmitters, Bool.and_eq_true, Bool.not_eq_true', ← Bool.not_eq_true, hasDimmer_iff, decide_eq_true_iff]
  push Not
  rfl

theorem emitterValues_dark {q : Personality} (scales : q.scalesEmitters = true) (c : Colour) :
    ∀ e ∈ emitterValues q c 0, e = 0 := by
  rw [emitterValues, List.forall_mem_map, scales]
  intro e _
  rw [if_pos rfl, scale, Nat.mul_zero]

/-- R107: the output of a head forced dark. -/
theorem output_dark {s : State} {h : Nat} (dark : s.forcedDark h = true) (q : Personality) (m : Motion) :
    (s.output h q m).intensity = 0 ∧ (s.output h q m).shutter = q.shutterClosed
      ∧ ((∀ r ∈ q.channelMap, r.role ≠ .dimmer) → q.system ≠ .subtractiveCmy →
        ∀ e ∈ (s.output h q m).emitters, e = 0) := by
  have intensity : s.outputIntensity h = 0 := if_pos dark
  refine ⟨intensity, if_pos dark, fun roles additive => ?_⟩
  rw [State.output, intensity]
  exact emitterValues_dark ((scalesEmitters_iff q).mpr ⟨roles, additive⟩) _

/-- Settles O42. -/
theorem headsInZonesAreDark : Obligations.HeadsInZonesAreDark := by
  refine ⟨fun s h z q m hz hq hm active member panMin panMax tiltMin tiltMax => ?_, fun s h patched =>
    ⟨⟨?_, ?_, ?_, ?_, ?_⟩, fun z => ?_, fun q m => ⟨fun forced => output_dark ((forcedDark_iff s h).mpr forced) q m,
      fun latch mode homing faulted zones => if_neg fun dark => ?_⟩⟩⟩
  · have inside : z ∈ s.zonesOf h :=
      (mem_zonesOf s).mpr ⟨hz, active, member, patched_of_personalityOf s hq, m, hm, panMin, panMax, tiltMin, tiltMax⟩
    exact ⟨inside, output_dark ((forcedDark_iff s h).mpr (.inr (.inr (.inr (.inr ⟨z, inside⟩))))) q m⟩
  · simp [mem_forcing]
  · simp [mem_forcing]
  · simp [mem_forcing]
  · simp [mem_forcing]
  · simp [mem_forcing]
  · simp only [mem_zonesOf, patched, true_and]
  · rcases (forcedDark_iff s h).mp dark with now | now | now | now | ⟨z, now⟩
    · rw [latch] at now
      cases now
    · exact mode now
    · exact homing now
    · exact faulted now
    · rw [zones] at now
      cases now

/-! ## Channel values -/

theorem channelValue_zero {r : Nat} (hr : 0 < r) : channelValue 0 r = 0 := by
  rw [channelValue, Nat.mul_zero, Nat.zero_mul, Nat.zero_add]
  exact Nat.div_eq_of_lt (by omega)

theorem channelValue_full {r : Nat} (hr : 0 < r) : channelValue r r = 65535 := by
  rw [channelValue, Nat.mul_comm (2 * r), Nat.add_comm, Nat.add_mul_div_right _ _ (by omega), Nat.div_eq_of_lt (by omega)]

theorem channelValue_mono {p p' : Nat} (h : p ≤ p') (r : Nat) : channelValue p r ≤ channelValue p' r :=
  Nat.div_le_div_right (Nat.add_le_add_right (Nat.mul_le_mul_right _ (Nat.mul_le_mul_left _ h)) _)

/-- Settles O43: the channel value is monotone and reaches its end at the range. -/
theorem channelValueRoundsHalfUp : Obligations.ChannelValueRoundsHalfUp := by
  intro p r hr hp
  exact ⟨rfl, (channelValue_mono hp r).trans (channelValue_full hr).le, channelValue_zero hr, channelValue_full hr, rfl, rfl⟩

end Sys2Proof.Machine
end

section
/-! SUPPORT. The frame build: colours, blink, the slots of a head and the slots of a frame (R105 to R107, R112 to R116). -/

namespace Sys2Proof.Machine

open Sys2Proof

variable (s : State)

/-! ## Colours and emitters -/

/-- R113: the white part is the smallest of the three components. -/
theorem min_three_cases (a b c : Nat) : min a (min b c) ≤ a ∧ min a (min b c) ≤ b ∧ min a (min b c) ≤ c
    ∧ (min a (min b c) = a ∨ min a (min b c) = b ∨ min a (min b c) = c) := by
  omega

theorem emitterValues_getElem? {q : Personality} {c : Colour} {k e g : Nat} (colour : (convertColour q.system c)[k]? = some e)
    (gain : q.gains[k]? = some g) (intensity : Nat) :
    (emitterValues q c intensity)[k]? = some (if q.scalesEmitters then scale (scale e g) intensity else scale e g) := by
  rw [emitterValues, List.getElem?_map, List.getElem?_zipWith, colour, gain]
  rfl

/-! ## Blink -/

theorem blinkOff_iff (h : Nat) :
    s.blinkOff h = true ↔ ∃ g, (s.headPatch h).blinkGenerator = some g ∧ (s.generator g).on = false := by
  rw [State.blinkOff, Option.any_eq_true _ _]
  simp only [Bool.not_eq_true']

theorem blinkOff_of_all_on {s : State} {h : Nat} (on : ∀ g, (s.headPatch h).blinkGenerator = some g → (s.generator g).on = true) :
    s.blinkOff h = false := by
  rw [← Bool.not_eq_true, blinkOff_iff]
  rintro ⟨g, assigned, off⟩
  exact ne_true_of_eq_false off (on g assigned)

theorem blinksIntensity_iff (h : Nat) :
    s.blinksIntensity h = true ↔ s.blinkOff h = true ∧ (s.headPatch h).blinkMask ≠ .colour := by
  rw [State.blinksIntensity, Bool.and_eq_true, decide_eq_true_iff]

theorem blinksColour_iff (h : Nat) :
    s.blinksColour h = true ↔ s.blinkOff h = true ∧ (s.headPatch h).blinkMask ≠ .intensity := by
  rw [State.blinksColour, Bool.and_eq_true, decide_eq_true_iff]

theorem outputIntensity_merged {s : State} {h : Nat} (bright : s.forcedDark h = false) (steady : ¬ s.blinksIntensity h = true) :
    s.outputIntensity h = (s.mergedTarget h .intensity).num := by
  rw [State.outputIntensity, if_neg (ne_true_of_eq_false bright), if_neg steady]

theorem outputIntensity_blinked {s : State} {h : Nat} (blinks : s.blinksIntensity h = true) : s.outputIntensity h = 0 := by
  rw [State.outputIntensity, if_pos blinks, ite_self]

theorem output_emitters_blinked {s : State} {h : Nat} (blinks : s.blinksColour h = true) (q : Personality) (m : Motion) :
    (s.output h q m).emitters = emitterValues q (s.headPatch h).altColour (s.output h q m).intensity := by
  rw [State.output, State.colourAfterBlink, if_pos blinks]

theorem output_emitters_merged {s : State} {h : Nat} (steady : ¬ s.blinksColour h = true) (q : Personality) (m : Motion) :
    (s.output h q m).emitters = emitterValues q (s.mergedTarget h .colour).rgb (s.output h q m).intensity := by
  rw [State.output, State.colourAfterBlink, if_neg steady]

/-! ## The slots of a head -/

theorem role_eq_byte (o : HeadOutput) (r : RoleEntry) (b : Byte) : o.role r = .byte b ↔
    (r.role = .shutter ∧ b = o.shutter) ∨ (r.role = .control ∧ r.width = .w8 ∧ b = BitVec.ofNat 8 r.fixed) := by
  cases role : r.role <;> cases width : r.width <;> simp [HeadOutput.role, role, width, eq_comm]

theorem role_eq_unit (o : HeadOutput) (r : RoleEntry) (u : Nat) : o.role r = .unit u ↔
    (r.role = .pan ∧ u = o.pan ∨ r.role = .tilt ∧ u = o.tilt ∨ r.role = .dimmer ∧ u = o.intensity
      ∨ r.role = .control ∧ r.width = .w16 ∧ u = r.fixed
      ∨ (r.role = .emitter1 ∨ r.role = .cyan) ∧ u = o.emitters.getD 0 0
      ∨ (r.role = .emitter2 ∨ r.role = .magenta) ∧ u = o.emitters.getD 1 0
      ∨ (r.role = .emitter3 ∨ r.role = .yellow) ∧ u = o.emitters.getD 2 0
      ∨ r.role = .emitter4 ∧ u = o.emitters.getD 3 0) := by
  cases role : r.role <;> cases width : r.width <;> simp [HeadOutput.role, role, width, eq_comm]

/-- R115: a byte fills one slot, a channel unit the one or two slots of its role's width. -/
theorem mem_placeRole (base : Nat) (r : RoleEntry) (v : RoleValue) (k : Nat) (b : Byte) : (k, b) ∈ placeRole base r v ↔
    (v = .byte b ∧ k = base + r.offset) ∨ ∃ u, v = .unit u ∧ (k = base + r.offset ∧ b = BitVec.ofNat 8 (u / 256)
      ∨ r.width = .w16 ∧ k = base + r.offset + 1 ∧ b = BitVec.ofNat 8 (u % 256)) := by
  cases v with
  | byte c => simp [placeRole, eq_comm, and_comm]
  | unit u => cases width : r.width <;> simp [placeRole, width]

theorem mem_headSlots {s : State} {h : Nat} {p : Placement} {q : Personality} {m : Motion} (hp : s.placement h = some p)
    (hq : s.personalityOf h = some q) (hm : s.motion h = some m) (k : Nat) (b : Byte) :
    (k, b) ∈ s.headSlots h ↔ ∃ r ∈ q.channelMap, (k, b) ∈ placeRole p.base r ((s.output h q m).role r) := by
  rw [State.headSlots, hp, hq, hm]
  exact List.mem_flatMap

/-! ## The slots of a frame -/

theorem length_frameSlots (l : Nat) : (s.frameSlots l).length = s.slotCount l := by
  rw [State.frameSlots, List.length_map, List.length_range]

theorem frameSlots_getElem? {s : State} {l k : Nat} (hk : k < s.slotCount l) : (s.frameSlots l)[k]? =
    some ((((s.headsOn l).flatMap s.headSlots).find? (fun e => e.1 == k + 1)).elim 0#8 Prod.snd) := by
  rw [State.frameSlots, List.getElem?_map, List.getElem?_range hk, Option.map_some]
  cases ((s.headsOn l).flatMap s.headSlots).find? (fun e => e.1 == k + 1) <;> rfl

theorem frameSlots_unfilled {s : State} {l k : Nat} (hk : k < s.slotCount l)
    (unfilled : ∀ h ∈ s.headsOn l, ∀ e ∈ s.headSlots h, e.1 ≠ k + 1) : (s.frameSlots l)[k]? = some 0#8 := by
  have missing : ((s.headsOn l).flatMap s.headSlots).find? (fun e => e.1 == k + 1) = none := by
    rw [List.find?_eq_none]
    intro e member
    obtain ⟨h, hh, he⟩ := List.mem_flatMap.mp member
    exact fun slot => unfilled h hh e he (eq_of_beq slot)
  rw [frameSlots_getElem? hk, missing]
  rfl

theorem frameSlots_filled {s : State} {l k : Nat} {b : Byte} (hk : k < s.slotCount l)
    (filled : ∃ h ∈ s.headsOn l, (k + 1, b) ∈ s.headSlots h)
    (only : ∀ h ∈ s.headsOn l, ∀ e ∈ s.headSlots h, e.1 = k + 1 → e.2 = b) : (s.frameSlots l)[k]? = some b := by
  obtain ⟨h, hh, he⟩ := filled
  have present : (((s.headsOn l).flatMap s.headSlots).find? (fun e => e.1 == k + 1)).isSome = true :=
    List.find?_isSome.mpr ⟨(k + 1, b), List.mem_flatMap.mpr ⟨h, hh, he⟩, beq_self_eq_true _⟩
  obtain ⟨e, found⟩ := Option.isSome_iff_exists.mp present
  obtain ⟨h', hh', he'⟩ := List.mem_flatMap.mp (List.mem_of_find?_eq_some found)
  have slot : e.1 = k + 1 := eq_of_beq (List.find?_some (p := fun e : Nat × Byte => e.1 == k + 1) found)
  rw [frameSlots_getElem? hk, found]
  exact congrArg some (only h' hh' e he' slot)

/-- R107, R112, R116: what a frame build computes of a patched head. -/
theorem output_spec (h : Nat) (q : Personality) (m : Motion) (dark : Bool) (forced : dark = s.forcedDark h) :
    ((dark = true → (s.output h q m).intensity = 0 ∧ (s.output h q m).shutter = q.shutterClosed)
      ∧ (dark = false → (s.output h q m).shutter = q.shutterOpen)
      ∧ (dark = false → ¬ s.blinksIntensity h = true → (s.output h q m).intensity = (s.mergedTarget h .intensity).num)) := by
  subst forced
  exact ⟨fun dark => ⟨if_pos dark, if_pos dark⟩, fun bright => if_neg (ne_true_of_eq_false bright), outputIntensity_merged⟩

/-- Settles O44, part by part: colours, the output of a head, its slots, and the slots of a frame. -/
theorem framesPlaceEveryRole : Obligations.FramesPlaceEveryRole := by
  refine ⟨⟨fun c => ⟨rfl, ?_, rfl⟩, fun q c intensity k e g colour gain => ⟨fun kept => ?_, fun additive roles => ?_⟩⟩,
    ?_, ?_, fun s l => ⟨length_frameSlots s l, fun k hk => ⟨frameSlots_unfilled hk, fun b => frameSlots_filled hk⟩⟩⟩
  · obtain ⟨red, green, blue, attained⟩ := min_three_cases c.red c.green c.blue
    exact ⟨_, red, green, blue, attained, rfl⟩
  · rw [emitterValues_getElem? colour gain, if_neg]
    · rfl
    · rw [scalesEmitters_iff]
      rintro ⟨roles, additive⟩
      rcases kept with cmy | ⟨r, hr, dimmer⟩
      · exact additive cmy
      · exact roles r hr dimmer
  · rw [emitterValues_getElem? colour gain, if_pos ((scalesEmitters_iff q).mpr ⟨roles, additive⟩)]
    rfl
  · rintro s h q m _ dark rfl forced
    obtain ⟨closed, opened, merged⟩ := output_spec s h q m dark (Bool.eq_iff_iff.mpr (forced.trans (forcedDark_iff s h).symm))
    refine ⟨rfl, rfl, closed, opened, fun bright on => merged bright ?_, fun bright mask => merged bright ?_,
      fun g assigned off mask => outputIntensity_blinked
        ((blinksIntensity_iff s h).mpr ⟨(blinkOff_iff s h).mpr ⟨g, assigned, off⟩, mask⟩),
      fun g assigned off mask => output_emitters_blinked
        ((blinksColour_iff s h).mpr ⟨(blinkOff_iff s h).mpr ⟨g, assigned, off⟩, mask⟩) q m,
      fun on => output_emitters_merged ?_ q m, fun mask => output_emitters_merged ?_ q m⟩
    · rw [blinksIntensity_iff, blinkOff_of_all_on on]
      exact fun blinks => Bool.false_ne_true blinks.1
    · rw [blinksIntensity_iff]
      exact fun blinks => blinks.2 mask
    · rw [blinksColour_iff, blinkOff_of_all_on on]
      exact fun blinks => Bool.false_ne_true blinks.1
    · rw [blinksColour_iff]
      exact fun blinks => blinks.2 mask
  · rintro s h p q m _ hp hq hm rfl k b
    rw [mem_headSlots hp hq hm]
    refine exists_congr fun r => and_congr_right fun _ => ?_
    rw [mem_placeRole, role_eq_byte, ← or_assoc]
    exact or_congr (by tauto) (exists_congr fun u => and_congr_left' (role_eq_unit _ r u))

end Sys2Proof.Machine
end

section
/-! SUPPORT. The requests and the toggle of the blink generators (R109 to R111). -/

namespace Sys2Proof.Machine

open Sys2Proof

variable (s : State)

/-! ## Blink generators -/

theorem ownSetBlinkGenerator_eq {g : Nat} (hg : g < 4) (rate : Int) (m : RunMark) (tag : Byte) :
    ownSetBlinkGenerator g rate (some m) tag s = (s.setGenerator g ((s.generator g).configure (clamp 1 64 rate) m),
      .reply (if rate < 1 ∨ 64 < rate then .clamped else .ok) (.generator ((s.generator g).configure (clamp 1 64 rate) m))) := by
  rw [ownSetBlinkGenerator, if_neg (show ¬ Config.blinkGenerators ≤ g from hg.not_ge), okOrClamped_clamps]
  rfl

theorem configure_stop_running {g : Generator} (running : g.running = true) (rate : Nat) :
    g.configure rate .stop = ⟨rate, false, true, 0⟩ :=
  if_pos running

theorem configure_stop_stopped {g : Generator} (stopped : g.running = false) (rate : Nat) :
    g.configure rate .stop = ⟨rate, false, g.on, g.count⟩ := by
  rw [Generator.configure, if_neg (ne_true_of_eq_false stopped), ← stopped]

theorem blinkToggle_eq {s : State} {k : Nat} (runs : s.merge.mode ≠ .hold) (running : (s.generator k).running = true) :
    s.blinkToggle k = if (s.generator k).rate ≤ (s.generator k).count + 1
      then s.setGenerator k { s.generator k with on := !(s.generator k).on, count := 0 } else s := by
  rw [State.blinkToggle, (showTime_iff s).mpr runs, Bool.true_and, Generator.toggles, running, Bool.true_and]
  exact if_congr decide_eq_true_iff rfl rfl

/-! ## Blink assignments -/

/-- R111: a blink assignment written into one head record. -/
def State.assignHeadBlink (generator : Option Nat) (mask : BlinkMask) (s : State) (h : Nat) : State :=
  s.setHeadPatch h ((s.headPatch h).assignBlink generator mask)

theorem assignBlink_eq (hs : List Nat) (g : Option Nat) (mask : BlinkMask) :
    s.assignBlink hs g mask = hs.foldl (State.assignHeadBlink g mask) s := rfl

theorem assignBlink_headPatch {hs : List Nat} (once : hs.Nodup) (g : Option Nat) (mask : BlinkMask) (h : Nat) :
    (s.assignBlink hs g mask).headPatch h =
      if h ∈ hs then { s.headPatch h with blinkGenerator := g, blinkMask := mask } else s.headPatch h := by
  rw [assignBlink_eq]
  exact foldl_update (f := State.assignHeadBlink g mask) (read := State.headPatch) (g := fun _ c => c.assignBlink g mask)
    (fun u l k => headPatch_setHeadPatch u l k _) once s h

theorem mem_blinkHeads_group (gr h : Nat) :
    h ∈ s.blinkHeads (.group gr) ↔ s.patched h = true ∧ (s.group gr).getLsbD h = true := by
  rw [State.blinkHeads, List.mem_filter, mem_patchedHeads]

/-- R111: an assignment whose fields are good and whose target is there. -/
theorem ownSetBlinkAssignment_eq {s : State} {target : BlinkTarget} {g : Option Nat} (free : s.storeBusy = false)
    (valid : blinkTargetValid target = true) (generators : ∀ k, g = some k → k < 4) (present : s.blinkTargetMissing target = false)
    (mask : BlinkMask) (tag : Byte) : ownSetBlinkAssignment (some target) g (some mask) tag s =
      accept (s.assignBlink (s.blinkHeads target) g mask) (.written (s.blinkHeads target).length) := by
  have fields : ¬ (!blinkTargetValid target || g.any (fun k => decide (Config.blinkGenerators ≤ k))) = true := by
    rw [valid, Bool.not_true, Bool.false_or, Option.any_eq_true _ _]
    rintro ⟨k, named, bad⟩
    exact (generators k named).not_ge (of_decide_eq_true bad)
  rw [ownSetBlinkAssignment, if_neg (ne_true_of_eq_false free)]
  exact (if_neg fields).trans (if_neg (ne_true_of_eq_false present))

/-- Settles O45. -/
theorem blinkRequestsAndToggle : Obligations.BlinkRequestsAndToggle := by
  refine ⟨fun t tag g rate s admits hg => ⟨?_, fun running => ?_, fun stopped => ?_⟩, fun t tag g mask s generators =>
    ⟨fun h hh admits free patched => ?_, fun gr hgr admits free once => ?_,
      fun k runs running => ⟨fun full => ?_, fun early => ?_⟩⟩⟩
  · exact request_reply s t tag 0x4C#8 _ _ _ _ admits (ownSetBlinkGenerator_eq (s.advance t) hg rate .run tag)
  · refine request_reply s t tag 0x4C#8 _ _ _ _ admits ((ownSetBlinkGenerator_eq (s.advance t) hg rate .stop tag).trans ?_)
    rw [configure_stop_running (g := (s.advance t).generator g) running]
  · refine request_reply s t tag 0x4C#8 _ _ _ _ admits ((ownSetBlinkGenerator_eq (s.advance t) hg rate .stop tag).trans ?_)
    rw [configure_stop_stopped (g := (s.advance t).generator g) stopped]
    rfl
  · exact request_reply s t tag 0x4C#8 _ _ _ _ admits (ownSetBlinkAssignment_eq (s := s.advance t) (target := .head h) free
      (decide_eq_true_iff.mpr hh) generators (by rw [State.blinkTargetMissing, show (s.advance t).patched h = true from patched]; rfl)
      mask tag)
  · refine ⟨_, request_reply s t tag 0x4C#8 _ _ _ _ admits (ownSetBlinkAssignment_eq (s := s.advance t) (target := .group gr) free
      (decide_eq_true_iff.mpr hgr) generators rfl mask tag), fun h => ?_⟩
    have members : ((s.advance t).blinkHeads (.group gr)).Nodup := once.filter _
    exact (assignBlink_headPatch (s.advance t) members g mask h).trans (if_congr (mem_blinkHeads_group (s.advance t) gr h) rfl rfl)
  · have toggled := (blinkToggle_eq (s := s.advance t) runs running).trans (if_pos full)
    exact congrArg (fun v : State => Host.Outcome.next v.startTransmit) toggled
  · have passed := (blinkToggle_eq (s := s.advance t) runs running).trans (if_neg early.not_ge)
    exact congrArg (fun v : State => Host.Outcome.next v.startTransmit) passed

end Sys2Proof.Machine
end

section
/-! SUPPORT. The beat: its requests, its timers, its pulses, and what a beat event does (R48, R109, R120 to R125). -/

namespace Sys2Proof.Machine

open Sys2Proof

variable (s : State)

/-! ## A notice keeps the inputs -/

theorem notify_inputs (n : Notice) : (s.notify n).inputs = s.inputs ∧ (s.notify n).now = s.now := by
  simp

/-- R126: a BEAT_SOURCE notice of the beat part that was just written. -/
theorem notifyBeat_setBeat (b : Beat) (cause : BeatCause) :
    (s.setBeat b).notifyBeat cause = (s.setBeat b).notify (.beatSource b.source b.setting b.period b.history.length cause) := rfl

/-! ## The requests -/

theorem ownSetTempo_refused {s : State} (external : s.inputs.beat.source = .external) (v : Int) (tag : Byte) :
    ownSetTempo v tag s = refuse .wrongState s :=
  if_pos external

theorem ownSetTempo_sets {s : State} (internal : s.inputs.beat.source = .internal) (v : Int) (tag : Byte) :
    ownSetTempo v tag s = (s.setBeat { s.inputs.beat with period := clamp 200000 2000000 v, history := [] },
      .reply (if v < 200000 ∨ 2000000 < v then .clamped else .ok) (.tempo (clamp 200000 2000000 v))) := by
  rw [ownSetTempo, if_neg (by rw [internal]; exact nofun), okOrClamped_clamps]
  rfl

theorem ownSetBeatSource_eq (x : BeatSetting) (tag : Byte) : ownSetBeatSource (some x) tag s =
    accept (s.withBeatSetting x)
      (.beatSource (s.withBeatSetting x).inputs.beat.source (s.withBeatSetting x).inputs.beat.setting) := rfl

theorem withBeatSetting_force_external {s : State} (auto : s.inputs.beat.setting = .auto)
    (external : s.inputs.beat.source = .external) : s.withBeatSetting .forceInternal =
      (s.setBeat { s.inputs.beat with setting := .forceInternal, source := .internal, missed := 0 }).notify
        (.beatSource .internal .forceInternal s.inputs.beat.period s.inputs.beat.history.length .force) := by
  rw [State.withBeatSetting.eq_def, auto]
  dsimp only
  rw [State.forceInternal, external]
  rfl

theorem withBeatSetting_force_internal {s : State} (auto : s.inputs.beat.setting = .auto)
    (internal : s.inputs.beat.source = .internal) :
    s.withBeatSetting .forceInternal = s.setBeat { s.inputs.beat with setting := .forceInternal } := by
  rw [State.withBeatSetting.eq_def, auto]
  dsimp only
  rw [State.forceInternal, internal]

theorem withBeatSetting_auto {s : State} (forced : s.inputs.beat.setting = .forceInternal) :
    s.withBeatSetting .auto = s.setBeat { s.inputs.beat with setting := .auto, previousPulse := none } := by
  rw [State.withBeatSetting.eq_def, forced]

theorem withBeatSetting_same : s.withBeatSetting s.inputs.beat.setting = s := by
  rw [State.withBeatSetting.eq_def]
  cases s.inputs.beat.setting <;> rfl

/-! ## The beat timer and the subdivision timer -/

theorem beatExpiry_internal {s : State} (internal : s.inputs.beat.source = .internal) :
    s.beatExpiry = (s.setBeat { s.inputs.beat with timer := s.now + s.inputs.beat.period }).beatEvent := by
  rw [State.beatExpiry, internal]
  rfl

theorem beatExpiry_first_miss {s : State} (external : s.inputs.beat.source = .external) (none : s.inputs.beat.missed = 0) :
    s.beatExpiry = s.setBeat { s.inputs.beat with missed := 1, timer := s.now + s.inputs.beat.period } := by
  rw [State.beatExpiry, external]
  exact if_pos none

theorem beatExpiry_lost {s : State} (external : s.inputs.beat.source = .external) (missed : s.inputs.beat.missed ≠ 0) :
    s.beatExpiry = (((s.setBeat { s.inputs.beat with source := .internal, missed := 0 }).notify
        (.beatSource .internal s.inputs.beat.setting s.inputs.beat.period s.inputs.beat.history.length .loss)).setBeat
          { s.inputs.beat with source := .internal, missed := 0, timer := s.now + s.inputs.beat.period }).beatEvent := by
  rw [State.beatExpiry, external]
  dsimp only
  rw [if_neg missed, State.reloadBeat, notifyBeat_setBeat, (notify_inputs _ _).1, (notify_inputs _ _).2]
  rfl

theorem subdivisionExpiry_running {s : State} {x : Subdivision} (runs : s.inputs.beat.subdivision = some x) :
    s.subdivisionExpiry = (s.setBeat { s.inputs.beat with
      subdivision := if x.next < 3 then some ⟨s.now + x.reload, x.reload, x.next + 1⟩ else none }).quarterBeat := by
  rw [State.subdivisionExpiry, runs]
  rfl

/-- Settles O46, request by request and timer by timer. -/
theorem tempoRequestsAndBeatTimers : Obligations.TempoRequestsAndBeatTimers := by
  refine ⟨fun t tag v s admits => ⟨fun external => ?_, fun internal => ?_, fun auto external => ?_, fun auto internal => ?_,
      fun forced => ?_, fun x same => ?_⟩,
    fun t s => ⟨fun internal => ?_, fun external none => ?_, fun external missed => ?_, fun x runs => ?_⟩⟩
  · exact request_reply s t tag 0x50#8 _ _ _ _ admits (ownSetTempo_refused (s := s.advance t) external v tag)
  · exact request_reply s t tag 0x50#8 _ _ _ _ admits (ownSetTempo_sets (s := s.advance t) internal v tag)
  · refine request_reply s t tag 0x51#8 _ _ _ _ admits ?_
    rw [ownSetBeatSource_eq, withBeatSetting_force_external (s := s.advance t) auto external, (notify_inputs _ _).1]
    rfl
  · refine request_reply s t tag 0x51#8 _ _ _ _ admits ?_
    rw [ownSetBeatSource_eq, withBeatSetting_force_internal (s := s.advance t) auto internal,
      ← show (s.advance t).inputs.beat.source = .internal from internal]
    rfl
  · refine request_reply s t tag 0x51#8 _ _ _ _ admits ?_
    rw [ownSetBeatSource_eq, withBeatSetting_auto (s := s.advance t) forced]
    rfl
  · subst same
    refine request_reply s t tag 0x51#8 _ _ _ _ admits ?_
    rw [ownSetBeatSource_eq, show (s.advance t).withBeatSetting s.inputs.beat.setting = s.advance t
      from withBeatSetting_same (s.advance t)]
    rfl
  · exact congrArg (fun v : State => Host.Outcome.next v.startTransmit) (beatExpiry_internal (s := s.advance t) internal)
  · exact congrArg (fun v : State => Host.Outcome.next v.startTransmit) (beatExpiry_first_miss (s := s.advance t) external none)
  · exact congrArg (fun v : State => Host.Outcome.next v.startTransmit) (beatExpiry_lost (s := s.advance t) external missed)
  · exact congrArg (fun v : State => Host.Outcome.next v.startTransmit) (subdivisionExpiry_running (s := s.advance t) runs)

/-! ## Pulses -/

/-- R120: a pulse whose interval is rejected: there is none, or it lies outside the bounds. -/
theorem pulse_rejected {b : Beat} {now : Nat} (rejected : b.previousPulse = none ∨ ∃ p, b.previousPulse = some p ∧
    (now - p < 200000 ∨ 2000000 < now - p)) :
    b.pulse now = { b with previousPulse := some now } ∧ (b.interval now).any intervalAccepted = false := by
  rcases rejected with first | ⟨p, before, outside⟩
  · have interval : b.interval now = none := by rw [Beat.interval, first]; rfl
    rw [Beat.pulse, interval]
    exact ⟨rfl, rfl⟩
  · have interval : b.interval now = some (now - p) := by rw [Beat.interval, before]; rfl
    have refused : ¬ intervalAccepted (now - p) = true := by
      rw [intervalAccepted_iff]
      rintro ⟨low, high⟩
      exact outside.elim low.not_gt high.not_gt
    rw [Beat.pulse, interval]
    exact ⟨if_neg refused, Bool.eq_false_of_not_eq_true refused⟩

/-- R120: a pulse whose interval is accepted. -/
theorem pulse_accepted {b : Beat} {now p : Nat} (before : b.previousPulse = some p) (low : 200000 ≤ now - p)
    (high : now - p ≤ 2000000) : b.pulse now = { b with
        previousPulse := some now
        history := appendInterval b.history (now - p)
        period := meanInterval (appendInterval b.history (now - p)) }
      ∧ (b.interval now).any intervalAccepted = true := by
  have interval : b.interval now = some (now - p) := by rw [Beat.interval, before]; rfl
  have accepted : intervalAccepted (now - p) = true := (intervalAccepted_iff _).mpr ⟨low, high⟩
  rw [Beat.pulse, interval]
  exact ⟨if_pos accepted, accepted⟩

theorem beatPulse_forced {s : State} (forced : s.inputs.beat.setting = .forceInternal) : s.beatPulse = s := by
  rw [State.beatPulse, forced]

theorem beatPulse_internal {s : State} (auto : s.inputs.beat.setting = .auto) (internal : s.inputs.beat.source = .internal) :
    s.beatPulse = if (s.inputs.beat.interval s.now).any intervalAccepted
      then ((s.setBeat { s.inputs.beat.pulse s.now with source := .external }).notifyBeat .pulse).externalPulse
      else s.setBeat (s.inputs.beat.pulse s.now) := by
  rw [State.beatPulse, auto]
  dsimp only
  rw [internal]
  rfl

theorem beatPulse_external {s : State} (auto : s.inputs.beat.setting = .auto) (external : s.inputs.beat.source = .external) :
    s.beatPulse = (s.setBeat (s.inputs.beat.pulse s.now)).externalPulse := by
  rw [State.beatPulse, auto]
  dsimp only
  rw [external]

theorem externalPulse_notify (n : Notice) : (s.notify n).externalPulse = ((s.notify n).setBeat
    { s.inputs.beat with timer := s.now + s.inputs.beat.period, missed := 0 }).beatEvent := by
  rw [State.externalPulse, (notify_inputs s n).1, (notify_inputs s n).2]

/-- Settles O47, by the setting, the interval and the source. -/
theorem beatPulseByRuleAndSource : Obligations.BeatPulseByRuleAndSource := by
  intro t s
  have pulses (u : State) (h : (s.advance t).beatPulse = u) : exec (.beatPulse t) s = .next u.startTransmit :=
    congrArg (fun v : State => Host.Outcome.next v.startTransmit) h
  refine ⟨fun forced => pulses _ (beatPulse_forced (s := s.advance t) forced), fun auto internal rejected => pulses _ ?_,
    fun p auto before low high => ⟨_, _, _, rfl, rfl, rfl, pulses _ ?_⟩, fun auto external rejected => pulses _ ?_⟩
  · obtain ⟨pulse, refused⟩ := pulse_rejected (b := (s.advance t).inputs.beat) rejected
    rw [beatPulse_internal (s := s.advance t) auto internal, refused, pulse]
    rfl
  · obtain ⟨pulse, accepted⟩ := pulse_accepted (b := (s.advance t).inputs.beat) before low high
    cases source : s.inputs.beat.source with
    | internal =>
      rw [beatPulse_internal (s := s.advance t) auto source, accepted, if_pos rfl, if_pos rfl, notifyBeat_setBeat,
        externalPulse_notify, pulse, ← show (s.advance t).inputs.beat.setting = .auto from auto]
      rfl
    | external =>
      rw [beatPulse_external (s := s.advance t) auto source, pulse, if_neg nofun,
        ← show (s.advance t).inputs.beat.source = .external from source]
      rfl
  · obtain ⟨pulse, _⟩ := pulse_rejected (b := (s.advance t).inputs.beat) rejected
    rw [beatPulse_external (s := s.advance t) auto external, pulse]
    rfl

end Sys2Proof.Machine
end

section
/-! SUPPORT. What beat events and timecode frames do to the layers and the generators (R48, R49, R109, R125 to R128). -/

namespace Sys2Proof.Machine

open Sys2Proof

variable (s : State)

/-! ## Takes of a layer leave the inputs -/

/-- A state without its playback and its notices. -/
def State.sansPlaybackNotices (s : State) : State :=
  { s with playback := ⟨[], [], 0⟩, link.notices := [], link.lost := false }

theorem notify_sansPlayback (n : Notice) : SameBut State.sansPlaybackNotices s (s.notify n) := by
  rw [State.notify]
  split <;> rfl

theorem goTake_same {s v : State} {l : Nat} {i : TakeInfo} (taken : s.goTake l = .taken v i) :
    SameBut State.sansPlaybackNotices s v := by
  obtain ⟨_, _, c, _, _, _, rfl⟩ := goTake_taken s l v i taken
  rfl

theorem reportedGo_same (l : Nat) (source : TakeSource) : SameBut State.sansPlaybackNotices s (s.reportedGo l source) := by
  rw [State.reportedGo]
  split
  · exact notify_sansPlayback s _
  · next v i taken => exact (goTake_same taken).trans (notify_sansPlayback v _)

theorem beatLayer_same (l : Nat) : SameBut State.sansPlaybackNotices s (s.beatLayer l) := by
  rw [State.beatLayer]
  split
  · exact SameBut.trans (u := s.setLayer l { s.layer l with chaseCount := 0 }) rfl (reportedGo_same _ l .chase)
  · split <;> rfl

theorem beatLayers_same : SameBut State.sansPlaybackNotices s s.beatLayers := by
  rw [State.beatLayers]
  split
  · exact .foldl beatLayer_same layerIds s
  · rfl

/-! ## A beat event of a layer -/

theorem beatLayers_hold {s : State} (hold : s.merge.mode = .hold) : s.beatLayers = s :=
  if_neg fun runs => (showTime_iff s).mp runs hold

theorem beatLayers_runs {s : State} (runs : s.merge.mode ≠ .hold) : s.beatLayers = (List.range 12).foldl State.beatLayer s :=
  if_pos ((showTime_iff s).mpr runs)

theorem beatLayer_passed {s : State} {l : Nat} (silent : ¬ (s.layer l).chases = true) : s.beatLayer l = s := by
  rw [State.beatLayer]
  rw [if_neg fun due => silent ((chaseDue_iff _).mp due).1, if_neg silent]

theorem beatLayer_counts {s : State} {l : Nat} (chases : (s.layer l).chases = true)
    (early : (s.layer l).chaseCount + 1 < (s.layer l).settings.chaseBeats) :
    s.beatLayer l = s.setLayer l { s.layer l with chaseCount := (s.layer l).chaseCount + 1 } := by
  rw [State.beatLayer]
  rw [if_neg fun due => early.not_ge ((chaseDue_iff _).mp due).2, if_pos chases]

theorem beatLayer_takes {s : State} {l : Nat} (chases : (s.layer l).chases = true)
    (full : (s.layer l).settings.chaseBeats ≤ (s.layer l).chaseCount + 1) : s.beatLayer l = s.chaseTake l :=
  if_pos ((chaseDue_iff _).mpr ⟨chases, full⟩)

/-! ## A quarter-beat of the generators -/

/-- R109: a quarter-beat counted by one generator. -/
def State.quarterGenerator (s : State) (g : Nat) : State := s.setGenerator g (s.generator g).quarter

theorem quarterBeat_hold {s : State} (hold : s.merge.mode = .hold) : s.quarterBeat = s :=
  if_neg fun runs => (showTime_iff s).mp runs hold

theorem quarterBeat_runs {s : State} (runs : s.merge.mode ≠ .hold) :
    s.quarterBeat = (List.range 4).foldl State.quarterGenerator s :=
  if_pos ((showTime_iff s).mpr runs)

theorem quarterBeat_same : SameBut State.sansEffects s s.quarterBeat := by
  by_cases hold : s.merge.mode = .hold
  · rw [quarterBeat_hold hold]
    rfl
  · rw [quarterBeat_runs hold]
    exact .foldl (blank := State.sansEffects) (f := State.quarterGenerator) (fun _ _ => rfl) _ s

/-- What is the same but for the effects is the state with other effects. -/
theorem eq_of_sansEffects {s u : State} (same : SameBut State.sansEffects s u) : u = { s with effects := u.effects } :=
  congrArg (fun w : State => { w with effects := u.effects }) same

theorem quarterBeat_generator {s : State} (runs : s.merge.mode ≠ .hold) {g : Nat} (hg : g < 4) :
    s.quarterBeat.generator g = (s.generator g).quarter := by
  rw [quarterBeat_runs runs, foldl_update (f := State.quarterGenerator) (read := State.generator)
    (g := fun _ => Generator.quarter) (fun u l k => generator_setGenerator u l k _) List.nodup_range,
    if_pos (List.mem_range.mpr hg)]

theorem quarter_eq (g : Generator) : g.quarter = if g.running = true then
      (if g.rate ≤ g.count + 1 then { g with on := !g.on, count := 0 } else { g with count := g.count + 1 })
    else g := by
  cases running : g.running with
  | false => rw [quarter_of_stopped g running, if_neg nofun]
  | true => rw [quarter_of_running g running, if_pos rfl, running]

/-- R125: the beat part a beat event reloads is the one it began with. -/
theorem beatEvent_eq : s.beatEvent = (s.beatLayers.quarterBeat).setBeat { s.inputs.beat with
    subdivision := some ⟨s.now + s.inputs.beat.period / 4, s.inputs.beat.period / 4, 1⟩ } := by
  have inputs : s.beatLayers.quarterBeat.inputs = s.inputs :=
    ((quarterBeat_same s.beatLayers).read State.inputs fun _ => rfl).trans ((beatLayers_same s).read State.inputs fun _ => rfl)
  have now : s.beatLayers.quarterBeat.now = s.now :=
    ((quarterBeat_same s.beatLayers).read State.now fun _ => rfl).trans ((beatLayers_same s).read State.now fun _ => rfl)
  rw [State.beatEvent, State.startSubdivision, inputs, now]

/-- Settles O48. -/
theorem beatEventsReachLayersAndGenerators : Obligations.BeatEventsReachLayersAndGenerators := by
  refine fun s => ⟨fun hold => ⟨beatLayers_hold hold, quarterBeat_hold hold⟩, beatLayers_runs, fun l other =>
    beatLayer_passed ?_, fun l chase counts => ?_, fun runs => ⟨eq_of_sansEffects (quarterBeat_same s), fun g hg => ?_⟩,
    beatEvent_eq s⟩
  · rw [chases_iff]
    rintro ⟨chase, counts⟩
    exact other.elim (fun h => h chase) fun h => counts.elim h.1 h.2
  · have chases : (s.layer l).chases = true := (chases_iff _).mpr ⟨chase, counts⟩
    exact ⟨beatLayer_counts chases, fun full => ⟨_, rfl,
      fun v i taken => (beatLayer_takes chases full).trans (reportedGo_taken taken _),
      fun st cue refused => (beatLayer_takes chases full).trans (reportedGo_refused refused _)⟩⟩
  · rw [quarterBeat_generator runs hg, quarter_eq]

/-! ## Timecode messages -/

theorem withPartial_same {s : State} (empty : s.inputs.timecode.partialChars = []) : s.withPartial [] = s := by
  rw [← empty]
  rfl

theorem withPartial_withPartial (cs ds : List Byte) : (s.withPartial cs).withPartial ds = s.withPartial ds := rfl

theorem timecodeChar_begins {s : State} (empty : s.inputs.timecode.partialChars = []) (c : Byte) :
    s.timecodeChar c = s.withPartial (timecodeStart c) := by
  rw [State.timecodeChar, empty]
  rfl

theorem timecodeChar_goes_on {s : State} {cs : List Byte} (begun : s.inputs.timecode.partialChars = cs)
    (nonempty : cs.isEmpty = false) (short : cs.length < 5) (c : Byte) : s.timecodeChar c = s.withPartial (cs ++ [c]) := by
  rw [State.timecodeChar, begun]
  rw [if_neg (ne_true_of_eq_false nonempty), if_pos short]

theorem timecodeChar_ends {s : State} {cs : List Byte} (begun : s.inputs.timecode.partialChars = cs) (full : cs.length = 5)
    (c : Byte) : s.timecodeChar c = (timecodeFrame (cs ++ [c])).elim (s.withPartial []) (s.withPartial []).timecodeValid := by
  have nonempty : ¬ cs.isEmpty = true := by
    rw [List.isEmpty_iff]
    rintro rfl
    cases full
  rw [State.timecodeChar, begun]
  rw [if_neg nonempty, if_neg (by omega)]
  cases timecodeFrame (cs ++ [c]) <;> rfl

/-- R127: a message received whole, with no message being assembled, is valid or leaves no trace. -/
theorem timecodeMessage_whole {s : State} (empty : s.inputs.timecode.partialChars = []) (h m sec f check : Byte) :
    [0xA5#8, h, m, sec, f, check].foldl State.timecodeChar s =
      (timecodeFrame [0xA5#8, h, m, sec, f, check]).elim s s.timecodeValid := by
  rw [List.foldl_cons, timecodeChar_begins empty, show timecodeStart 0xA5#8 = [0xA5#8] from if_pos rfl,
    List.foldl_cons, timecodeChar_goes_on (cs := [0xA5#8]) rfl rfl (by decide),
    List.foldl_cons, timecodeChar_goes_on (cs := [0xA5#8, h]) rfl rfl (by simp),
    List.foldl_cons, timecodeChar_goes_on (cs := [0xA5#8, h, m]) rfl rfl (by simp),
    List.foldl_cons, timecodeChar_goes_on (cs := [0xA5#8, h, m, sec]) rfl rfl (by simp),
    List.foldl_cons, timecodeChar_ends (cs := [0xA5#8, h, m, sec, f]) rfl rfl, List.foldl_nil]
  simp only [withPartial_withPartial, withPartial_same empty, List.cons_append, List.nil_append]

theorem timecodeFrame_valid {h m sec f : Byte} (hours : h.toNat < 24) (minutes : m.toNat < 60) (seconds : sec.toNat < 60)
    (frames : f.toNat < 30) : timecodeFrame [0xA5#8, h, m, sec, f, h + m + sec + f] =
      some (((h.toNat * 60 + m.toNat) * 60 + sec.toNat) * 30 + f.toNat) :=
  if_pos ⟨rfl, hours, minutes, seconds, frames, rfl⟩

theorem timecodeFrame_invalid {h m sec f check : Byte} (bad : check ≠ h + m + sec + f ∨ 24 ≤ h.toNat ∨ 60 ≤ m.toNat
    ∨ 60 ≤ sec.toNat ∨ 30 ≤ f.toNat) : timecodeFrame [0xA5#8, h, m, sec, f, check] = none := by
  refine if_neg ?_
  rintro ⟨_, hours, minutes, seconds, frames, same⟩
  rcases bad with bad | bad | bad | bad | bad
  · exact bad same
  · exact hours.not_ge bad
  · exact minutes.not_ge bad
  · exact seconds.not_ge bad
  · exact frames.not_ge bad

theorem timecodeValid_eq {s : State} (empty : s.inputs.timecode.partialChars = []) (n : Nat) : s.timecodeValid n =
    (if s.inputs.timecode.locked then s.setTimecode ⟨true, n, some (s.now + 100000), []⟩
      else (s.setTimecode ⟨true, n, some (s.now + 100000), []⟩).notify (.timecode true n)).timecodeLayers n := by
  rw [← empty]
  rfl

theorem lockExpiry_running {s : State} (runs : s.inputs.timecode.lockTimer ≠ none) : s.lockExpiry =
    (s.setTimecode { s.inputs.timecode with locked := false, lockTimer := none }).notify
      (.timecode false s.inputs.timecode.frame) :=
  if_pos (Option.isSome_iff_ne_none.mpr runs)

/-- Settles O49. -/
theorem timecodeLocksAndLoses : Obligations.TimecodeLocksAndLoses := by
  intro t h m sec f s
  have nexts {u v : State} (same : u = v) : (Host.Outcome.next u.startTransmit : Host.Outcome State Fault Refusal) =
    .next v.startTransmit := congrArg (fun w : State => Host.Outcome.next w.startTransmit) same
  refine ⟨fun empty hours minutes seconds frames => ⟨_, _, rfl, rfl, nexts ?_⟩, fun check empty bad => nexts ?_,
    fun next => rfl, rfl, rfl, fun runs => nexts (lockExpiry_running (s := s.advance t) runs)⟩
  · refine (timecodeMessage_whole (s := s.advance t) empty h m sec f _).trans ?_
    rw [timecodeFrame_valid hours minutes seconds frames]
    exact timecodeValid_eq (s := s.advance t) empty _
  · refine (timecodeMessage_whole (s := s.advance t) empty h m sec f check).trans ?_
    rw [timecodeFrame_invalid bad]
    rfl

/-! ## Timecode frames -/

/-- The last of an ascending list is its element of the highest number. -/
theorem getLast?_of_highest {cs : List Cue} (sorted : cs.Pairwise (fun a b => a.number < b.number)) {c : Cue} (hc : c ∈ cs)
    (highest : ∀ d ∈ cs, d.number ≤ c.number) : cs.getLast? = some c := by
  obtain ⟨before, behind, rfl⟩ := List.append_of_mem hc
  cases behind with
  | nil => exact List.getLast?_concat
  | cons d ds =>
    rw [List.pairwise_append, List.pairwise_cons] at sorted
    exact absurd (sorted.2.1.1 d List.mem_cons_self) (highest d (by simp)).not_gt

/-- The first of an ascending list that fits has the lowest number of those that fit. -/
theorem find?_lowest {cs : List Cue} (sorted : cs.Pairwise (fun a b => a.number < b.number)) {p : Cue → Bool} {e : Cue}
    (found : cs.find? p = some e) {d : Cue} (hd : d ∈ cs) (fits : p d = true) : e.number ≤ d.number := by
  obtain ⟨_, before, behind, rfl, refused⟩ := List.find?_eq_some_iff_append.mp found
  rw [List.pairwise_append, List.pairwise_cons] at sorted
  rcases List.mem_append.mp hd with first | rest
  · have := refused d first
    rw [fits] at this
    cases this
  · rcases List.mem_cons.mp rest with rfl | later
    · exact le_refl _
    · exact (sorted.2.1.1 d later).le

theorem mem_below (cs : List Cue) (f : Nat) (c : Cue) :
    c ∈ cs.filter (fun c => c.tcFrame.any (fun x => decide (x ≤ f))) ↔ c ∈ cs ∧ ∃ x, c.tcFrame = some x ∧ x ≤ f := by
  rw [List.mem_filter, Option.any_eq_true _ _]
  simp only [decide_eq_true_iff]

theorem timecodeTarget_none {cs : List Cue} {f : Nat} (late : ∀ c ∈ cs, ∀ x, c.tcFrame = some x → f < x) :
    timecodeTarget cs f = none := by
  rw [timecodeTarget, List.getLast?_eq_none_iff, List.eq_nil_iff_forall_not_mem]
  intro c hc
  obtain ⟨member, x, frame, low⟩ := (mem_below cs f c).mp hc
  exact (late c member x frame).not_ge low

theorem timecodeTarget_highest {cs : List Cue} (sorted : cs.Pairwise (fun a b => a.number < b.number)) {f : Nat} {c : Cue} {x : Nat}
    (hc : c ∈ cs) (frame : c.tcFrame = some x) (low : x ≤ f)
    (highest : ∀ d ∈ cs, ∀ y, d.tcFrame = some y → y ≤ f → d.number ≤ c.number) : timecodeTarget cs f = some c := by
  refine getLast?_of_highest (sorted.filter _) ((mem_below cs f c).mpr ⟨hc, x, frame, low⟩) fun d hd => ?_
  obtain ⟨member, y, framed, below⟩ := (mem_below cs f d).mp hd
  exact highest d member y framed below

/-- R49: a cue that may be the timecode successor. -/
def Layer.follows (y : Layer) (d : Cue) : Bool := d.tcFrame.isSome && y.currentCue.all (fun n => decide (n < d.number))

theorem timecodeSuccessor_eq (y : Layer) (cs : List Cue) : y.timecodeSuccessor cs = cs.find? y.follows := rfl

theorem follows_iff (y : Layer) (d : Cue) : y.follows d = true ↔
    d.tcFrame ≠ none ∧ ∀ n, y.currentCue = some n → n < d.number := by
  rw [Layer.follows, Bool.and_eq_true, Option.isSome_iff_ne_none, Option.all_eq_true]
  simp only [decide_eq_true_iff]

theorem timecodeSuccessor_number {y : Layer} {cs : List Cue} (sorted : cs.Pairwise (fun a b => a.number < b.number)) {c : Cue}
    (hc : c ∈ cs) (framed : c.tcFrame ≠ none) (above : ∀ n, y.currentCue = some n → n < c.number)
    (lowest : ∀ d ∈ cs, d.tcFrame ≠ none → (∀ n, y.currentCue = some n → n < d.number) → c.number ≤ d.number) :
    (y.timecodeSuccessor cs).map Cue.number = some c.number := by
  have fits := (follows_iff y c).mpr ⟨framed, above⟩
  obtain ⟨e, found⟩ := Option.isSome_iff_exists.mp (List.find?_isSome.mpr ⟨c, hc, fits⟩)
  obtain ⟨frame, beyond⟩ := (follows_iff y e).mp (List.find?_some found)
  have first : e.number ≤ c.number := find?_lowest sorted found hc fits
  have last : c.number ≤ e.number := lowest e (List.mem_of_find?_eq_some found) frame beyond
  rw [timecodeSuccessor_eq, found, Option.map_some, first.antisymm last]

theorem timecodeSuccessor_other {y : Layer} {cs : List Cue} (sorted : cs.Pairwise (fun a b => a.number < b.number)) {c : Cue}
    (other : (∃ n, y.currentCue = some n ∧ c.number ≤ n) ∨ (∃ d ∈ cs, d.tcFrame ≠ none
      ∧ (∀ n, y.currentCue = some n → n < d.number) ∧ d.number < c.number)) :
    (y.timecodeSuccessor cs).map Cue.number ≠ some c.number := by
  intro same
  rw [timecodeSuccessor_eq] at same
  obtain ⟨e, found, number⟩ := Option.map_eq_some_iff.mp same
  obtain ⟨_, beyond⟩ := (follows_iff y e).mp (List.find?_some found)
  rcases other with ⟨n, current, behind⟩ | ⟨d, hd, framed, above, before⟩
  · exact (beyond n current).not_ge (number ▸ behind)
  · exact before.not_ge (number ▸ find?_lowest sorted found hd ((follows_iff y d).mpr ⟨framed, above⟩))

theorem timecodeTake_next {s : State} {l : Nat} {c : Cue}
    (next : ((s.layer l).timecodeSuccessor (s.layerCues l)).map Cue.number = some c.number) :
    s.timecodeTake l c = (if s.loading then .refused .storeBusy (some c.number) else s.takeCue l c, .go) :=
  if_pos next

theorem timecodeTake_other {s : State} {l : Nat} {c : Cue}
    (other : ((s.layer l).timecodeSuccessor (s.layerCues l)).map Cue.number ≠ some c.number) :
    s.timecodeTake l c = (s.gotoTake l c.number, .goto) :=
  if_neg other

/-- R49: a frame whose target is not the layer's current cue. -/
theorem timecodeLayer_takes {s : State} {f l : Nat} {c : Cue} (mode : (s.layer l).settings.mode = .timecode)
    (target : timecodeTarget (s.layerCues l) f = some c) (changed : (s.layer l).currentCue ≠ some c.number) :
    State.timecodeLayer f s l = s.reportTimecode l c.number (s.timecodeTake l c) := by
  rw [State.timecodeLayer, if_pos mode, target]
  exact if_neg changed

/-- R49: a refused timecode take is told once. -/
def State.timecodeRefused (s : State) (l n : Nat) (st : Status) : State :=
  if (s.layer l).refusedTarget = some n then s
  else (s.setLayer l { s.layer l with refusedTarget := some n }).notify (.takeFailed l .timecode none st (some n))

theorem reportTimecode_refused (l n : Nat) (st : Status) (q : Option Nat) (kind : TakeKind) :
    s.reportTimecode l n (.refused st q, kind) = s.timecodeRefused l n st := rfl

theorem reportTimecode_taken (l n : Nat) (v : State) (i : TakeInfo) (kind : TakeKind) :
    s.reportTimecode l n (.taken v i, kind) = v.notify (.cueTaken l i.cue .timecode kind) := rfl

/-- Settles O50: the target is the last cue at or below the frame, and the take is GO's when it is the timecode successor. -/
theorem timecodeFramesMoveTheirLayers : Obligations.TimecodeFramesMoveTheirLayers := by
  refine fun s f => ⟨fun still => if_neg ?_, fun runs locked => if_pos ?_, fun l => ⟨fun mode => if_neg mode, fun late => ?_,
    fun c x mode sorted hc frame low highest => ⟨fun current => ?_, fun changed => ⟨s.timecodeRefused l c.number, fun st => rfl,
      fun above lowest => ?_, fun other => ?_⟩⟩⟩⟩
  · rw [Bool.and_eq_true, showTime_iff]
    rintro ⟨runs, locked⟩
    exact still.elim runs fun lost => ne_true_of_eq_false lost locked
  · rw [Bool.and_eq_true, showTime_iff]
    exact ⟨runs, locked⟩
  · rw [State.timecodeLayer, timecodeTarget_none late]
    exact ite_self _
  · rw [State.timecodeLayer, timecodeTarget_highest sorted hc frame low highest, if_pos mode]
    exact if_pos current
  · have takes := timecodeLayer_takes mode (timecodeTarget_highest sorted hc frame low highest) changed
    rw [timecodeTake_next (timecodeSuccessor_number sorted hc (by rw [frame]; exact nofun) above lowest)] at takes
    rw [takes]
    refine ⟨fun loading => ?_, fun idle full => ?_, fun idle room => ?_⟩
    · rw [if_pos loading, reportTimecode_refused]
    · rw [if_neg (ne_true_of_eq_false idle), takeCue_full full, reportTimecode_refused]
    · rw [if_neg (ne_true_of_eq_false idle), takeCue_taken room, reportTimecode_taken]
      exact ⟨_, rfl, (writeTake_layer s l c _ l).trans (if_pos rfl), fun k apart => (writeTake_layer s l c _ k).trans (if_neg apart),
        rfl, rfl⟩
  · have takes := timecodeLayer_takes mode (timecodeTarget_highest sorted hc frame low highest) changed
    rw [timecodeTake_other (timecodeSuccessor_other sorted other)] at takes
    rw [takes]
    refine ⟨fun v i taken => ?_, fun st q refused => ?_⟩
    · rw [taken, reportTimecode_taken]
    · rw [refused, reportTimecode_refused]

end Sys2Proof.Machine
end

section
/-! SUPPORT. Edges on the trigger lines and what acting on a flag does (R129 to R131). -/

namespace Sys2Proof.Machine

open Sys2Proof

variable (s : State)

/-! ## Flags -/

theorem acts_iff (n : Nat) : s.acts n = true ↔ (s.trigger n).pending = true
    ∧ ((s.trigger n).entry.action = .none ∨ s.inputs.floor < (s.trigger n).entry.precedence) := by
  rw [State.acts, Bool.and_eq_true, Bool.or_eq_true, decide_eq_true_iff, decide_eq_true_iff]

theorem testFlag_acts {s : State} {n : Nat} (acts : s.acts n = true) : s.testFlag n = s.actOn n := if_pos acts

theorem testFlag_holds {s : State} {n : Nat} (held : ¬ s.acts n = true) : s.testFlag n = s := if_neg held

theorem actOn_none {s : State} {n : Nat} (action : (s.trigger n).entry.action = .none) : s.actOn n = s.clearFlag n := by
  rw [State.actOn, action]
  rfl

theorem actOn_some {s : State} {n : Nat} {a : Action} (action : (s.trigger n).entry.action = a) (some : a ≠ .none) :
    s.actOn n = ((s.clearFlag n).doAction a).finish (s.clearFlag n) n a := by
  rw [State.actOn, action]
  cases a with
  | none => exact absurd rfl some
  | _ => rfl

/-! ## Edges -/

/-- R129: the state with an accepted edge noted and its flag set. -/
def State.flagged (s : State) (n : Nat) : State := s.setTrigger n ⟨true, some s.now, (s.trigger n).entry⟩

theorem flagged_trigger (n : Nat) : (s.flagged n).trigger n = ⟨true, some s.now, (s.trigger n).entry⟩ := by
  rw [State.flagged, trigger_setTrigger, if_pos rfl]

theorem flagged_acts_iff (n : Nat) : (s.flagged n).acts n = true ↔
    (s.trigger n).entry.action = .none ∨ s.inputs.floor < (s.trigger n).entry.precedence := by
  rw [acts_iff, flagged_trigger]
  exact and_iff_right rfl

theorem flagged_clearFlag (n : Nat) :
    (s.flagged n).clearFlag n = (s.flagged n).setTrigger n ⟨false, some s.now, (s.trigger n).entry⟩ := by
  rw [State.clearFlag, flagged_trigger]

theorem acceptsEdge_iff (x : Trigger) (now : Nat) : x.acceptsEdge now = true ↔ ∀ e, x.lastEdge = some e → e + 10000 ≤ now := by
  rw [Trigger.acceptsEdge, Option.all_eq_true]
  exact forall₂_congr fun _ _ => decide_eq_true_iff

theorem triggerEdge_starting {s : State} (starting : s.startUp = .starting) (n : Nat) : s.triggerEdge n = s := if_pos starting

theorem triggerEdge_bounced {s : State} {n e : Nat} (last : (s.trigger n).lastEdge = some e) (soon : s.now < e + 10000) :
    s.triggerEdge n = s := by
  have refused : (s.trigger n).acceptsEdge s.now = false := by
    rw [← Bool.not_eq_true, acceptsEdge_iff]
    exact fun accepted => soon.not_ge (accepted e last)
  rw [State.triggerEdge, refused]
  exact ite_self _

theorem triggerEdge_accepted {s : State} {n : Nat} (started : s.startUp ≠ .starting)
    (late : ∀ e, (s.trigger n).lastEdge = some e → e + 10000 ≤ s.now) :
    s.triggerEdge n = if (s.trigger n).pending then s.flagged n else (s.flagged n).testFlag n := by
  rw [State.triggerEdge, if_neg started, (acceptsEdge_iff _ _).mpr late]
  rfl

theorem triggerEdge_held {s : State} {n : Nat} (started : s.startUp ≠ .starting)
    (late : ∀ e, (s.trigger n).lastEdge = some e → e + 10000 ≤ s.now)
    (held : (s.trigger n).pending = true ∨ ¬ (s.flagged n).acts n = true) : s.triggerEdge n = s.flagged n := by
  rw [triggerEdge_accepted started late]
  rcases held with pending | held
  · exact if_pos pending
  · rw [testFlag_holds held]
    exact ite_self _

theorem triggerEdge_acts {s : State} {n : Nat} (started : s.startUp ≠ .starting)
    (late : ∀ e, (s.trigger n).lastEdge = some e → e + 10000 ≤ s.now) (clear : (s.trigger n).pending = false)
    (acts : (s.flagged n).acts n = true) : s.triggerEdge n = (s.flagged n).actOn n := by
  rw [triggerEdge_accepted started late, if_neg (ne_true_of_eq_false clear), testFlag_acts acts]

/-! ## Actions -/

theorem finish_accepted (v : State) (n : Nat) (a : Action) (o : TriggerOutcome) :
    (ActionResult.accepted v o).finish s n a = v.notify (.triggerTaken n a o) := rfl

theorem finish_refused (n l : Nat) (a : Action) (st : Status) (cue : Option Nat) :
    (ActionResult.refused l st cue).finish s n a = s.notify (.takeFailed l .trigger (some n) st cue) := rfl

theorem layerAction_setLayer (l : Nat) (y : Layer) :
    layerAction l (some (s.setLayer l y)) = .accepted (s.setLayer l y) (.layerState y.state) := by
  rw [layerAction, layer_setLayer, if_pos rfl]

theorem doAction_kill (l : Nat) : s.doAction (.kill l) = .accepted (s.clearLayer l) (.layerState .idle) := by
  rw [State.doAction, layerAction, clearLayer_layer, if_pos rfl]
  rfl

theorem releaseLayer_idle {s : State} {l : Nat} (idle : (s.layer l).state = .idle) : s.releaseLayer l = none := if_pos idle

theorem releaseLayer_busy {s : State} {l : Nat} (busy : (s.layer l).state ≠ .idle) : s.releaseLayer l =
    some (s.setLayer l { s.layer l with
      state := .releasing, pausedFrom := none, followMs := none,
      slots := (s.layer l).slots.map (Slot.released (s.layer l).settings.releaseMs) }) :=
  if_neg busy

theorem resumeLayer_refused {s : State} {l : Nat} (other : (s.layer l).state ≠ .paused) : s.resumeLayer l = none := if_neg other

theorem triggerGo_refused {s : State} {l : Nat} {st : Status} {cue : Option Nat} (refused : s.goTake l = .refused st cue) :
    s.triggerGo l = .refused l st cue := by
  rw [State.triggerGo, refused]

theorem goTake_running {s v : State} {l : Nat} {i : TakeInfo} (taken : s.goTake l = .taken v i) :
    (v.layer l).state = .running := by
  obtain ⟨_, _, c, _, _, _, rfl⟩ := goTake_taken s l v i taken
  rw [writeTake_layer, if_pos rfl]
  rfl

theorem triggerGo_taken {s v : State} {l : Nat} {i : TakeInfo} (taken : s.goTake l = .taken v i) :
    s.triggerGo l = .accepted (v.notify (.cueTaken l i.cue .trigger .go)) (.layerState .running) := by
  have running : ((v.notify (.cueTaken l i.cue .trigger .go)).layer l).state = .running := by
    simpa using goTake_running taken
  rw [State.triggerGo, taken]
  exact congrArg (fun st => ActionResult.accepted (v.notify (.cueTaken l i.cue .trigger .go)) (.layerState st)) running

/-- Settles O51: the edges, and each action through what it does to the state with the flag cleared. -/
theorem triggerEdgesActAboveTheFloor : Obligations.TriggerEdgesActAboveTheFloor := by
  refine ⟨fun t n s => ?_, ?_, ?_⟩
  · have edge {u : State} (h : (s.advance t).triggerEdge n = u) : exec (.triggerEdge t n) s = .next u.startTransmit :=
      congrArg (fun v : State => Host.Outcome.next v.startTransmit) h
    refine ⟨fun starting => edge (triggerEdge_starting (s := s.advance t) starting n),
      fun e last soon => edge (triggerEdge_bounced (s := s.advance t) last soon), fun started late =>
      ⟨fun action low => edge (triggerEdge_held (s := s.advance t) started late (.inr ?_)),
        fun clear action => edge ?_, fun clear action high => edge ?_⟩⟩
    · rw [flagged_acts_iff]
      exact fun acts => acts.elim action low.not_gt
    · rw [triggerEdge_acts (s := s.advance t) started late clear ((flagged_acts_iff _ _).mpr (.inl action)),
        actOn_none (by rw [flagged_trigger]; exact action), flagged_clearFlag]
      rfl
    · rw [triggerEdge_acts (s := s.advance t) started late clear ((flagged_acts_iff _ _).mpr (.inr high)),
        actOn_some (a := .hold) (by rw [flagged_trigger]; exact action) nofun, flagged_clearFlag]
      rfl
  · rintro t n s _ started late rfl
    refine ⟨fun pending => ?_, fun clear acts => ?_⟩
    · exact congrArg (fun v : State => Host.Outcome.next v.startTransmit)
        (triggerEdge_held (s := s.advance t) started late (.inl pending))
    · exact congrArg (fun v : State => Host.Outcome.next v.startTransmit)
        (triggerEdge_acts (s := s.advance t) started late clear ((flagged_acts_iff _ _).mpr acts))
  · rintro s _ n a rfl action
    refine ⟨?_, ?_, ?_, ?_, ?_, ?_, ?_, ?_, ?_, ?_, ?_, ?_, ?_, ?_, ?_⟩
    · rintro rfl
      exact actOn_none action
    · rintro rfl
      exact actOn_some action nofun
    · rintro rfl
      exact actOn_some action nofun
    · rintro rfl
      exact actOn_some action nofun
    · rintro v rfl level
      have kept : clamp 0 15 (v : Int) = v := (clamp_zero_natCast 15 v).trans (min_eq_left level)
      rw [actOn_some action nofun, State.doAction, State.withMask, kept]
      rfl
    · rintro l rfl
      refine ⟨(s.clearFlag n).clearLayer l, ?_, ?_, fun k apart => ?_, rfl, rfl⟩
      · rw [actOn_some action nofun, doAction_kill]
        rfl
      · rw [clearLayer_layer, if_pos rfl]
        rfl
      · rw [clearLayer_layer, if_neg apart]
        rfl
    · rintro l rfl idle
      rw [actOn_some action nofun, State.doAction, releaseLayer_idle (s := s.clearFlag n) idle]
      rfl
    · rintro l rfl busy
      rw [actOn_some action nofun, State.doAction, releaseLayer_busy (s := s.clearFlag n) busy, layerAction_setLayer]
      rfl
    · rintro l rfl running releasing
      rw [actOn_some action nofun, State.doAction, pauseLayer_refused (s := s.clearFlag n) running releasing]
      rfl
    · rintro l rfl running
      rw [actOn_some action nofun, State.doAction, pauseLayer_of_pausable (s := s.clearFlag n) (p := .running)
        (congrArg LayerState.pausable running), layerAction_setLayer]
      rfl
    · rintro l rfl releasing
      rw [actOn_some action nofun, State.doAction, pauseLayer_of_pausable (s := s.clearFlag n) (p := .releasing)
        (congrArg LayerState.pausable releasing), layerAction_setLayer]
      rfl
    · rintro l rfl other
      rw [actOn_some action nofun, State.doAction, resumeLayer_refused (s := s.clearFlag n) other]
      rfl
    · rintro l rfl paused before
      rw [actOn_some action nofun, State.doAction, resumeLayer_of_paused (s := s.clearFlag n) paused before, layerAction_setLayer]
      rfl
    · rintro l rfl paused before
      rw [actOn_some action nofun, State.doAction, resumeLayer_of_paused (s := s.clearFlag n) paused before, layerAction_setLayer]
      rfl
    · rintro l rfl
      refine ⟨fun v i taken => ?_, fun st cue refused => ?_⟩
      · rw [actOn_some action nofun, State.doAction, triggerGo_taken (s := s.clearFlag n) taken]
        rfl
      · rw [actOn_some action nofun, State.doAction, triggerGo_refused (s := s.clearFlag n) refused]
        rfl

end Sys2Proof.Machine
end

section
/-! SUPPORT. The requests of the trigger lines (R130 to R133). -/

namespace Sys2Proof.Machine

open Sys2Proof

variable (s : State)

/-! ## Actions keep the inputs -/

theorem layerAction_accepted {l : Nat} {r : Option State} {v : State} {o : TriggerOutcome}
    (accepted : layerAction l r = .accepted v o) : r = some v := by
  cases r with
  | none => cases accepted
  | some u =>
    obtain ⟨rfl, _⟩ := ActionResult.accepted.inj accepted
    rfl

theorem releaseLayer_inputs {s v : State} {l : Nat} (h : s.releaseLayer l = some v) : v.inputs = s.inputs := by
  rw [State.releaseLayer] at h
  split at h
  · cases h
  · obtain rfl := Option.some.inj h
    rfl

theorem pauseLayer_inputs {s v : State} {l : Nat} (h : s.pauseLayer l = some v) : v.inputs = s.inputs := by
  obtain ⟨_, _, rfl⟩ := Option.map_eq_some_iff.mp h
  rfl

theorem resumeLayer_inputs {s v : State} {l : Nat} (h : s.resumeLayer l = some v) : v.inputs = s.inputs := by
  rw [State.resumeLayer] at h
  split at h
  · obtain ⟨_, _, rfl⟩ := Option.map_eq_some_iff.mp h
    rfl
  · cases h

theorem triggerGo_inputs {s v : State} {l : Nat} {o : TriggerOutcome} (h : s.triggerGo l = .accepted v o) :
    v.inputs = s.inputs := by
  rw [State.triggerGo] at h
  split at h
  · cases h
  · next u i taken =>
    obtain rfl := Option.some.inj (layerAction_accepted h)
    rw [(notify_inputs _ _).1]
    exact (goTake_same taken).read State.inputs fun _ => rfl

theorem doAction_inputs {s v : State} {a : Action} {o : TriggerOutcome} (h : s.doAction a = .accepted v o) :
    v.inputs = s.inputs := by
  cases a with
  | go l => exact triggerGo_inputs h
  | release l => exact releaseLayer_inputs (layerAction_accepted h)
  | pause l => exact pauseLayer_inputs (layerAction_accepted h)
  | resume l => exact resumeLayer_inputs (layerAction_accepted h)
  | kill l =>
    obtain rfl := Option.some.inj (layerAction_accepted h)
    rfl
  | none | hold | park | run | setMask =>
    obtain ⟨rfl, _⟩ := ActionResult.accepted.inj h
    rfl

theorem finish_inputs (a : Action) (n : Nat) : ((s.doAction a).finish s n a).inputs = s.inputs := by
  cases outcome : s.doAction a with
  | accepted v o => rw [finish_accepted, (notify_inputs _ _).1, doAction_inputs outcome]
  | refused l st cue => rw [finish_refused, (notify_inputs _ _).1]

/-- R131: acting on a flag leaves of the inputs all but the flag. -/
theorem actOn_inputs (n : Nat) : (s.actOn n).inputs = (s.clearFlag n).inputs := by
  by_cases none : (s.trigger n).entry.action = .none
  · rw [actOn_none none]
  · rw [actOn_some rfl none, finish_inputs]

theorem trigger_of_inputs_eq {s u : State} (h : u.inputs = s.inputs) (n : Nat) : u.trigger n = s.trigger n :=
  congrArg (fun i : Inputs => Table.get Trigger.powerOn i.triggers n) h

theorem actOn_trigger (n : Nat) : (s.actOn n).trigger n = { s.trigger n with pending := false } := by
  rw [trigger_of_inputs_eq (actOn_inputs s n), State.clearFlag, trigger_setTrigger, if_pos rfl]

theorem testFlag_floor (n : Nat) : (s.testFlag n).inputs.floor = s.inputs.floor := by
  rw [State.testFlag]
  split
  · rw [actOn_inputs]
    rfl
  · rfl

/-! ## SET TRIGGER -/

theorem okOrClamped_or (lo hi : Nat) (v : Int) (b : Bool) : okOrClamped (clamps lo hi v || b) =
    if v < lo ∨ (hi : Int) < v ∨ b = true then Status.clamped else .ok := by
  refine if_congr ?_ rfl rfl
  rw [clamps, Bool.or_eq_true, Bool.or_eq_true, decide_eq_true_iff, decide_eq_true_iff, or_assoc]

/-- R130: a good SET TRIGGER of a line. -/
theorem ownSetTrigger_eq {s : State} {n : Nat} {a : ActionReq} (free : s.storeBusy = false) (hn : n < 8)
    (layers : ∀ l, actionLayer a = some l → l < 12) (v : Int) (tag : Byte) : ownSetTrigger n (some a) v tag s =
      (s.storeTrigger n ⟨storedAction a, clamp 1 15 v⟩,
        .reply (if v < 1 ∨ 15 < v ∨ actionClamps a = true then .clamped else .ok)
          (.trigger ⟨storedAction a, clamp 1 15 v⟩ ((s.storeTrigger n ⟨storedAction a, clamp 1 15 v⟩).trigger n).pending)) := by
  have good : ¬ (Config.triggerLines ≤ n ∨ (actionLayer a).any (fun l => decide (Config.layers ≤ l)) = true) := by
    rintro (bad | bad)
    · exact hn.not_ge bad
    · obtain ⟨l, named, bad⟩ := (Option.any_eq_true _ _).mp bad
      exact (layers l named).not_ge (of_decide_eq_true bad)
  rw [ownSetTrigger, if_neg (ne_true_of_eq_false free)]
  dsimp only
  rw [if_neg good, okOrClamped_or]
  rfl

/-- R130: the state with an entry stored. -/
def State.withEntry (s : State) (n : Nat) (e : TriggerEntry) : State := s.setTrigger n { s.trigger n with entry := e }

theorem withEntry_trigger (n : Nat) (e : TriggerEntry) : (s.withEntry n e).trigger n = { s.trigger n with entry := e } := by
  rw [State.withEntry, trigger_setTrigger, if_pos rfl]

theorem withEntry_acts_iff (n : Nat) (e : TriggerEntry) : (s.withEntry n e).acts n = true ↔
    (s.trigger n).pending = true ∧ (e.action = .none ∨ s.inputs.floor < e.precedence) := by
  rw [acts_iff, withEntry_trigger]
  rfl

theorem storeTrigger_acts {s : State} {n : Nat} {e : TriggerEntry} (acts : (s.withEntry n e).acts n = true) :
    s.storeTrigger n e = (s.withEntry n e).actOn n ∧ ((s.storeTrigger n e).trigger n).pending = false := by
  have stored : s.storeTrigger n e = (s.withEntry n e).actOn n := testFlag_acts acts
  exact ⟨stored, by rw [stored, actOn_trigger]⟩

theorem storeTrigger_holds {s : State} {n : Nat} {e : TriggerEntry} (held : ¬ (s.withEntry n e).acts n = true) :
    s.storeTrigger n e = s.withEntry n e ∧ ((s.storeTrigger n e).trigger n).pending = (s.trigger n).pending := by
  have stored : s.storeTrigger n e = s.withEntry n e := testFlag_holds held
  exact ⟨stored, by rw [stored, withEntry_trigger]⟩

/-! ## SET TRIGGER FLOOR and CLEAR TRIGGER -/

/-- R132: the state and the number acted on when the lines below `n` have been taken. -/
def State.floorTaken (s : State) (n : Nat) : State × Nat := (List.range n).foldl countFlag (s, 0)

theorem floorTaken_zero : s.floorTaken 0 = (s, 0) := rfl

theorem floorTaken_succ (n : Nat) : s.floorTaken (n + 1) = countFlag (s.floorTaken n) n := by
  rw [State.floorTaken, List.range_succ, List.foldl_append]
  rfl

theorem floorTaken_floor (n : Nat) : (s.floorTaken n).1.inputs.floor = s.inputs.floor := by
  induction n with
  | zero => rfl
  | succ n ih => rw [floorTaken_succ, countFlag, testFlag_floor, ih]

theorem countFlag_acts {r : State × Nat} {n : Nat} (acts : r.1.acts n = true) : countFlag r n = (r.1.actOn n, r.2 + 1) := by
  rw [countFlag, testFlag_acts acts, if_pos acts]

theorem countFlag_holds {r : State × Nat} {n : Nat} (held : ¬ r.1.acts n = true) : countFlag r n = r := by
  rw [countFlag, testFlag_holds held, if_neg held]

theorem floorTaken_clear {s : State} {n : Nat} (clear : ∀ k < n, (s.trigger k).pending = false) : s.floorTaken n = (s, 0) := by
  induction n with
  | zero => rfl
  | succ n ih =>
    rw [floorTaken_succ, ih fun k hk => clear k (hk.trans n.lt_succ_self), countFlag_holds]
    rw [acts_iff]
    exact fun acts => ne_true_of_eq_false (clear n n.lt_succ_self) acts.1

theorem ownSetTriggerFloor_eq (v : Int) (tag : Byte) : ownSetTriggerFloor v tag s =
    ((({ s with inputs.floor := clamp 0 15 v } : State).floorTaken 8).1, .reply (if v < 0 ∨ 15 < v then .clamped else .ok)
      (.floor s.inputs.floor (clamp 0 15 v) (({ s with inputs.floor := clamp 0 15 v } : State).floorTaken 8).2)) := by
  rw [ownSetTriggerFloor, okOrClamped_clamps]
  rfl

/-- R133: CLEAR TRIGGER of every line. -/
theorem ownClearTrigger_all (tag : Byte) : ownClearTrigger none tag s = accept ((List.range 8).foldl State.clearFlag s)
    (.cleared ((List.range 8).map (fun n => (n, (s.trigger n).pending)))) := rfl

/-- Settles O52. -/
theorem triggerRequestsWithClearFlags : Obligations.TriggerRequestsWithClearFlags := by
  refine ⟨fun t tag v s admits => ⟨fun n hn a free clear layers => ?_, fun clear => ?_, fun n hn => ?_, fun u n => rfl,
      _, rfl, ?_, fun n hn => ?_⟩,
    fun t tag v s admits => ⟨fun n hn a free set layers => ⟨_, rfl, fun acts => ?_, fun action low => ?_⟩,
      ({ s.advance t with inputs := { s.inputs with floor := clamp 0 15 v } } : State).floorTaken, rfl,
      fun n hn set acts => ?_, fun n hn held => ?_, ?_⟩⟩
  · obtain ⟨stored, pending⟩ := storeTrigger_holds (s := s.advance t) (e := ⟨storedAction a, clamp 1 15 v⟩)
      fun acts => ne_true_of_eq_false clear ((withEntry_acts_iff _ _ _).mp acts).1
    refine request_reply s t tag 0x52#8 _ _ _ _ admits ?_
    rw [ownSetTrigger_eq (s := s.advance t) free hn layers, pending, stored, show ((s.advance t).trigger n).pending = false from clear]
    rfl
  · refine request_reply s t tag 0x53#8 _ _ _ _ admits ?_
    rw [ownSetTriggerFloor_eq, floorTaken_clear (s := { s.advance t with inputs.floor := clamp 0 15 v }) clear]
    rfl
  · refine request_reply s t tag 0x54#8 _ _ _ _ admits (if_neg ?_)
    exact fun bad => hn.not_ge (of_decide_eq_true bad)
  · exact request_reply s t tag 0x54#8 _ _ _ _ admits (ownClearTrigger_all (s.advance t) tag)
  · rw [clearFlags_trigger (s.advance t) _ List.nodup_range, if_pos (List.mem_range.mpr hn)]
    rfl
  · obtain ⟨stored, pending⟩ := storeTrigger_acts (s := s.advance t) (e := ⟨storedAction a, clamp 1 15 v⟩)
      ((withEntry_acts_iff (s.advance t) n _).mpr ⟨set, acts⟩)
    refine request_reply s t tag 0x52#8 _ _ _ _ admits ?_
    rw [ownSetTrigger_eq (s := s.advance t) free hn layers, pending, stored]
    rfl
  · obtain ⟨stored, pending⟩ := storeTrigger_holds (s := s.advance t) (n := n) (e := ⟨storedAction a, clamp 1 15 v⟩)
      fun acts => ((withEntry_acts_iff _ _ _).mp acts).2.elim action low.not_gt
    refine request_reply s t tag 0x52#8 _ _ _ _ admits ?_
    rw [ownSetTrigger_eq (s := s.advance t) free hn layers, pending, stored, show ((s.advance t).trigger n).pending = true from set]
    rfl
  · rw [floorTaken_succ, countFlag_acts]
    rw [acts_iff, floorTaken_floor]
    exact ⟨set, acts⟩
  · rw [floorTaken_succ, countFlag_holds]
    rw [acts_iff, floorTaken_floor]
    rintro ⟨set, acts⟩
    rcases held with clear | ⟨action, low⟩
    · exact ne_true_of_eq_false clear set
    · exact acts.elim action low.not_gt
  · exact request_reply s t tag 0x53#8 _ _ _ _ admits (ownSetTriggerFloor_eq (s.advance t) v tag)

end Sys2Proof.Machine
end

section
/-! SUPPORT. CONFIGURE LINE, and what supervision takes back from a disabled line (R148, R161). -/

namespace Sys2Proof.Machine

open Sys2Proof

variable (s : State)

/-! ## Aborted entries -/

/-- R143: the reply of a removed entry. -/
def abortReply (e : QueryEntry) : Option Reply :=
  match e.origin with
  | .console q => some ⟨0x59#8, q, .aborted, .bare, false⟩
  | .audit => none
  | .supervision => none

theorem abortEntry_replies (e : QueryEntry) :
    (s.abortEntry e).link.replies = s.link.replies ++ (abortReply e).toList := by
  rw [State.abortEntry, abortReply]
  cases e.origin with
  | console q => rfl
  | audit => exact (List.append_nil _).symm
  | supervision => exact (List.append_nil _).symm

theorem abortEntries_replies (es : List QueryEntry) :
    (s.abortEntries es).link.replies = s.link.replies ++ es.filterMap abortReply := by
  induction es generalizing s with
  | nil => exact (List.append_nil _).symm
  | cons e es ih =>
    have first : (s.abortEntries (e :: es)) = (s.abortEntry e).abortEntries es := rfl
    rw [first, ih, abortEntry_replies, List.append_assoc]
    cases reply : abortReply e with
    | none => rw [List.filterMap_cons_none reply]; rfl
    | some r => rw [List.filterMap_cons_some reply]; rfl

/-! ## Home entries taken back -/

/-- R161: the stage a head is left with when its HOME entry is removed. -/
def Watch.takenBack (w : Watch) : Watch := { w with stage := if w.condition = .faulted then .none else .queued }

/-- A state without the records of the heads, the re-home queue and the homing count. -/
def State.sansHoming (s : State) : State :=
  { s with supervision.heads := [], supervision.rehomeQueue := [], supervision.homingCount := 0 }

theorem takeBackHome_same (e : QueryEntry) : SameBut State.sansHoming s (s.takeBackHome e) := by
  rw [State.takeBackHome]
  split
  · dsimp only
    split <;> rfl
  · rfl

theorem takeBackHome_other {e : QueryEntry} (other : e.kind ≠ .home) : s.takeBackHome e = s := if_neg other

theorem takeBackHome_faulted {s : State} {e : QueryEntry} (home : e.kind = .home) (faulted : (s.watch e.head).condition = .faulted) :
    s.takeBackHome e = (s.lowerHoming 1).setWatch e.head { s.watch e.head with stage := .none } :=
  (if_pos home).trans (if_pos faulted)

theorem takeBackHome_queued {s : State} {e : QueryEntry} (home : e.kind = .home) (fit : (s.watch e.head).condition ≠ .faulted) :
    s.takeBackHome e = { (s.lowerHoming 1).setWatch e.head { s.watch e.head with stage := .queued } with
      supervision.rehomeQueue := e.head :: s.supervision.rehomeQueue } :=
  (if_pos home).trans (if_neg fit)

/-- R161: a HOME entry that supervision takes back. -/
theorem takeBackHome_home {s : State} {e : QueryEntry} (home : e.kind = .home) :
    (s.takeBackHome e).supervision.homingCount = s.supervision.homingCount - 1
    ∧ (s.takeBackHome e).supervision.rehomeQueue =
      [e.head].filter (fun h => decide ((s.watch h).condition ≠ .faulted)) ++ s.supervision.rehomeQueue
    ∧ ∀ h, (s.takeBackHome e).watch h = if h = e.head then (s.watch h).takenBack else s.watch h := by
  by_cases faulted : (s.watch e.head).condition = .faulted
  · rw [takeBackHome_faulted home faulted]
    refine ⟨rfl, by simp [faulted], fun h => ?_⟩
    rw [watch_setWatch]
    refine ite_congr rfl (fun same => ?_) fun _ => rfl
    rw [same, Watch.takenBack, if_pos faulted]
  · rw [takeBackHome_queued home faulted]
    refine ⟨rfl, by simp [faulted], fun h => (watch_setWatch (s.lowerHoming 1) e.head h _).trans ?_⟩
    refine ite_congr rfl (fun same => ?_) fun _ => rfl
    rw [same, Watch.takenBack, if_neg faulted]

/-- R161: the heads of the HOME entries among entries. -/
def homesOf (es : List QueryEntry) : List Nat := (es.filter (fun e => decide (e.kind = .home))).map QueryEntry.head

/-- R161: the removed entries handed to supervision, newest first. -/
def State.takenBack (s : State) (es : List QueryEntry) : State := es.reverse.foldl State.takeBackHome s

theorem takenBack_cons (e : QueryEntry) (es : List QueryEntry) : s.takenBack (e :: es) = (s.takenBack es).takeBackHome e := by
  rw [State.takenBack, List.reverse_cons, List.foldl_append]
  rfl

theorem takenBack_same (es : List QueryEntry) : SameBut State.sansHoming s (s.takenBack es) :=
  .foldl takeBackHome_same es.reverse s

theorem takenBack_condition (w : Watch) : w.takenBack.condition = w.condition := rfl

/-- R161: what the removed HOME entries do to the count, the queue and the records. -/
theorem takenBack_supervises (es : List QueryEntry) :
    (s.takenBack es).supervision.homingCount = s.supervision.homingCount - (homesOf es).length
    ∧ (s.takenBack es).supervision.rehomeQueue =
      (homesOf es).filter (fun h => decide ((s.watch h).condition ≠ .faulted)) ++ s.supervision.rehomeQueue
    ∧ ∀ h, (s.takenBack es).watch h = if h ∈ homesOf es then (s.watch h).takenBack else s.watch h := by
  induction es with
  | nil => exact ⟨rfl, rfl, fun _ => rfl⟩
  | cons e es ih =>
    rw [takenBack_cons]
    by_cases home : e.kind = .home
    · obtain ⟨count, queue, watch⟩ := ih
      obtain ⟨own, joined, record⟩ := takeBackHome_home (s := s.takenBack es) home
      have homes : homesOf (e :: es) = e.head :: homesOf es := by rw [homesOf, List.filter_cons_of_pos (by simpa using home)]; rfl
      have condition (h : Nat) : ((s.takenBack es).watch h).condition = (s.watch h).condition := by
        rw [watch]
        split <;> rfl
      refine ⟨?_, ?_, fun h => ?_⟩
      · rw [own, count, homes, List.length_cons, Nat.sub_sub]
      · rw [joined, queue, homes, ← List.append_assoc, ← List.singleton_append (l := homesOf es), List.filter_append]
        simp only [condition]
      · rw [record, watch, homes]
        by_cases same : h = e.head
        · have member : h ∈ e.head :: homesOf es := List.mem_cons.mpr (.inl same)
          rw [if_pos same, if_pos member]
          split <;> rfl
        · rw [if_neg same]
          simp only [List.mem_cons, same, false_or]
    · have homes : homesOf (e :: es) = homesOf es := by rw [homesOf, List.filter_cons_of_neg (by simpa using home)]; rfl
      rw [takeBackHome_other _ home, homes]
      exact ih

/-! ## CONFIGURE LINE -/

/-- R148: the settings of a line replaced and its wait counter cut. -/
def Line.configured (y : Line) (c : LineSettings) : Line := { y with settings := c, wait := min y.wait c.maxWait }

theorem configureLine_kept {s : State} {l : Nat} {c : LineSettings} (same : (s.line l).settings.enabled = c.enabled) :
    s.configureLine l c = s.setLine l ((s.line l).configured c) := by
  rw [State.configureLine]
  dsimp only
  rw [same, if_neg (by cases c.enabled <;> decide), if_neg (by cases c.enabled <;> decide)]
  rfl

theorem configureLine_disabled {s : State} {l : Nat} {c : LineSettings} (was : (s.line l).settings.enabled = true)
    (off : c.enabled = false) : s.configureLine l c = (s.setLine l ((s.line l).configured c)).disableLine l := by
  rw [State.configureLine]
  dsimp only
  rw [was, off]
  rfl

theorem configureLine_enabled {s : State} {l : Nat} {c : LineSettings} (was : (s.line l).settings.enabled = false)
    (on : c.enabled = true) : s.configureLine l c = (s.setLine l ((s.line l).configured c)).enableLine l := by
  rw [State.configureLine]
  dsimp only
  rw [was, on]
  rfl

theorem ownConfigureLine_eq {s : State} {c : LineReq} {on : Bool} (free : s.storeBusy = false) (hl : c.line < 16)
    (enabled : c.enabled = some on) (tag : Byte) : ownConfigureLine c tag s = (s.configureLine c.line (lineSettings c on),
      .reply (if lineClamps c then .clamped else .ok) (.lineSettings (lineSettings c on)
        (effectiveMs (lineSettings c on).refreshMs (s.slotCount c.line)))) := by
  rw [ownConfigureLine, if_neg (ne_true_of_eq_false free), enabled]
  exact if_neg (show ¬ Config.headLines ≤ c.line from hl.not_ge)

/-- R148: a line that is disabled, its queue and timers gone. -/
def Line.disabled (y : Line) : Line :=
  { y with queue := [], wait := 0, refreshTimer := none, auditTimer := none, refreshDue := false }

/-- R148, R143: a line disabled and its entries answered, before supervision takes the HOME entries back. -/
def State.emptied (s : State) (l : Nat) : State :=
  ((s.dropQueries l (fun _ => true)).setLine l { (s.dropQueries l (fun _ => true)).line l with
    wait := 0, refreshTimer := none, auditTimer := none, refreshDue := false })

theorem disableLine_eq (l : Nat) : s.disableLine l =
    if homeCount (s.line l).queue = 0 then (s.emptied l).takenBack (s.line l).queue
    else ((s.emptied l).takenBack (s.line l).queue).dispatch := rfl

theorem dropQueries_all_line (l k : Nat) : (s.dropQueries l (fun _ => true)).line k =
    if k = l then { s.line l with queue := [], wait := 0 } else s.line k := by
  rw [State.dropQueries, line_of_lines (abortEntries_lines _ _), line_setLine]
  refine ite_congr rfl (fun _ => ?_) fun _ => rfl
  have none : (s.line l).queue.filter (fun _ => !true) = [] := List.filter_eq_nil_iff.mpr fun _ _ => nofun
  rw [none]
  rfl

theorem emptied_line (l k : Nat) : (s.emptied l).line k = if k = l then (s.line l).disabled else s.line k := by
  rw [State.emptied, line_setLine, dropQueries_all_line, dropQueries_all_line]
  split
  · rw [if_pos rfl]
    rfl
  · rfl

theorem emptied_same (l : Nat) : SameBut State.sansLinesReplies s (s.emptied l) :=
  (dropQueries_same s l _).trans rfl

theorem emptied_replies (l : Nat) :
    (s.emptied l).link.replies = s.link.replies ++ (s.line l).queue.filterMap abortReply := by
  have all : (s.line l).queue.filter (fun _ => true) = (s.line l).queue := List.filter_eq_self.mpr fun _ _ => rfl
  have replies := abortEntries_replies (s.setLine l { s.line l with
    queue := (s.line l).queue.filter (fun _ => !true)
    wait := if ((s.line l).queue.filter (fun _ => !true)).isEmpty then 0 else (s.line l).wait })
      ((s.line l).queue.filter fun _ => true)
  rw [all] at replies
  exact (congrArg (fun es => (State.abortEntries _ es).link.replies) all).trans replies

theorem homeCount_eq (es : List QueryEntry) : homeCount es = (homesOf es).length := by
  rw [homeCount, homesOf, List.length_map]
  exact congrArg List.length (List.filter_congr fun e _ => beq_eq_decide _ _)

/-- R148, R161: a line that is disabled, before the dispatch. -/
def State.beforeDispatch (s : State) (l : Nat) : State := (s.emptied l).takenBack (s.line l).queue

/-- R161: a dispatch, run or not, leaves a disabled line and all but the homing as they are. -/
theorem disableLine_dispatches (l : Nat) :
    Dispatches (s.beforeDispatch l).supervision.rehomeQueue (s.beforeDispatch l) (s.disableLine l) := by
  rw [disableLine_eq]
  split
  · exact .refl _
  · exact dispatch_dispatches _

theorem beforeDispatch_line (l k : Nat) :
    (s.beforeDispatch l).line k = if k = l then (s.line l).disabled else s.line k := by
  rw [State.beforeDispatch, (takenBack_same (s.emptied l) _).read (·.line k) fun _ => rfl]
  exact emptied_line s l k

theorem beforeDispatch_same (l : Nat) : SameBut State.sansLinesLinkWatch s (s.beforeDispatch l) :=
  ((emptied_same s l).weaken fun _ => rfl).trans ((takenBack_same (s.emptied l) _).weaken fun _ => rfl)

theorem beforeDispatch_link (l : Nat) : (s.beforeDispatch l).link = (s.emptied l).link :=
  (takenBack_same (s.emptied l) _).read State.link fun _ => rfl

theorem beforeDispatch_supervises (l : Nat) :
    (s.beforeDispatch l).supervision.homingCount = s.supervision.homingCount - (homesOf (s.line l).queue).length
    ∧ (s.beforeDispatch l).supervision.homingLimit = s.supervision.homingLimit
    ∧ (s.beforeDispatch l).supervision.rehomeQueue =
      (homesOf (s.line l).queue).filter (fun h => decide ((s.watch h).condition ≠ .faulted)) ++ s.supervision.rehomeQueue
    ∧ ∀ h, (s.beforeDispatch l).watch h = if h ∈ homesOf (s.line l).queue then (s.watch h).takenBack else s.watch h := by
  have kept : (s.emptied l).supervision = s.supervision := (emptied_same s l).read State.supervision fun _ => rfl
  obtain ⟨count, queue, watch⟩ := takenBack_supervises (s.emptied l) (s.line l).queue
  simp only [watch_of_supervision kept, kept] at count queue watch
  exact ⟨count, (((takenBack_same (s.emptied l) _).read (·.supervision.homingLimit) fun _ => rfl).trans
    (congrArg Supervision.homingLimit kept)), queue, watch⟩

theorem disableLine_line {s : State} {l : Nat} (off : (s.line l).settings.enabled = false) :
    (s.disableLine l).line l = (s.line l).disabled := by
  have line : (s.beforeDispatch l).line l = (s.line l).disabled := (beforeDispatch_line s l l).trans (if_pos rfl)
  rw [(disableLine_dispatches s l).disabled l (by rw [line]; exact off), line]

theorem disableLine_same (l : Nat) : SameBut State.sansLinesLinkWatch s (s.disableLine l) :=
  (beforeDispatch_same s l).trans ((disableLine_dispatches s l).same.weaken fun _ => rfl)

theorem disableLine_homes (l : Nat) : (homesOf (s.line l).queue = [] → s.disableLine l = s.beforeDispatch l)
    ∧ (homesOf (s.line l).queue ≠ [] → s.disableLine l = (s.beforeDispatch l).dispatch) := by
  rw [disableLine_eq, homeCount_eq]
  exact ⟨fun none => if_pos (List.length_eq_zero_iff.mpr none), fun some => if_neg (mt List.length_eq_zero_iff.mp some)⟩

/-- R148: a line that is enabled, its audit timer started. -/
theorem enableLine_eq (l : Nat) (y : Line) : (s.setLine l y).enableLine l =
    if s.slotCount l = 0 then s.setLine l { y with auditTimer := some (s.now + 1000 * y.settings.auditMs) }
    else (s.setLine l { y with
      auditTimer := some (s.now + 1000 * y.settings.auditMs), refreshDue := true }).decideTurn l := by
  have line (z : Line) : (s.setLine l z).line l = z := (line_setLine s l l z).trans (if_pos rfl)
  have slots (z : Line) : (s.setLine l z).slotCount l = s.slotCount l := rfl
  rw [State.enableLine]
  simp only [line, setLine_setLine, slots]
  rfl

/-- Settles O53, by what the line was and what it becomes. -/
theorem configureLineReplacesSettings : Obligations.ConfigureLineReplacesSettings := by
  refine ⟨fun t tag c s admits free hl on was => ?_, fun t tag c s admits free hl off was => ?_,
    fun t tag c s admits free hl on was => ?_, fun t tag c s admits free hl off was => ?_⟩
  · refine ⟨lineSettings c true, rfl, request_reply s t tag 0x58#8 _ _ _ _ admits ?_⟩
    rw [ownConfigureLine_eq (s := s.advance t) free hl on,
      configureLine_kept (s := s.advance t) (l := c.line) (c := lineSettings c true) was]
    rfl
  · have served := request_reply s t tag 0x58#8 _ _ _ _ admits (ownConfigureLine_eq (s := s.advance t) free hl off tag)
    rw [configureLine_disabled (s := s.advance t) (c := lineSettings c false) was rfl] at served
    let y : Line := (s.line c.line).configured (lineSettings c false)
    let u : State := (s.advance t).setLine c.line y
    have configured : u.line c.line = y := (line_setLine (s.advance t) c.line c.line y).trans (if_pos rfl)
    have queue : (u.line c.line).queue = (s.line c.line).queue := by rw [configured]; rfl
    have line := disableLine_line (s := u) (l := c.line) (by rw [configured]; rfl)
    rw [configured] at line
    have same := disableLine_same u c.line
    obtain ⟨without, dispatched⟩ := disableLine_homes u c.line
    obtain ⟨count, limit, rehome, watch⟩ := beforeDispatch_supervises u c.line
    rw [queue] at without dispatched count rehome watch
    refine ⟨u.disableLine c.line, lineSettings c false, served, rfl, by rw [line]; rfl, by rw [line]; rfl,
      by rw [line]; rfl, by rw [line]; rfl, by rw [line]; rfl, by rw [line]; rfl, by rw [line]; rfl, by rw [line]; rfl, same.read State.patch fun _ => rfl,
      same.read State.playback fun _ => rfl, same.read State.limiter fun _ => rfl, same.read State.merge fun _ => rfl,
      u.beforeDispatch c.line, homesOf (s.line c.line).queue, rfl, without, dispatched, count, limit, rehome,
      fun h member => (watch h).trans (if_pos member), fun h member => (watch h).trans (if_neg member), fun k apart => ?_, ?_, ?_⟩
    · rw [beforeDispatch_line, if_neg apart]
      exact (line_setLine (s.advance t) c.line k y).trans (if_neg apart)
    · rw [beforeDispatch_link, emptied_replies, queue]
      rfl
    · rw [beforeDispatch_link]
      exact (emptied_same u c.line).read (·.link.notices) fun _ => rfl
  · have served := request_reply s t tag 0x58#8 _ _ _ _ admits (ownConfigureLine_eq (s := s.advance t) free hl on tag)
    rw [configureLine_enabled (s := s.advance t) (c := lineSettings c true) was rfl, enableLine_eq] at served
    refine ⟨lineSettings c true, _, rfl, rfl, fun none => ?_, fun some => ?_⟩
    · rw [if_pos (show (s.advance t).slotCount c.line = 0 from none)] at served
      exact served
    · rw [if_neg (show (s.advance t).slotCount c.line ≠ 0 from some.ne')] at served
      exact served
  · refine ⟨lineSettings c false, rfl, request_reply s t tag 0x58#8 _ _ _ _ admits ?_⟩
    rw [ownConfigureLine_eq (s := s.advance t) free hl off,
      configureLine_kept (s := s.advance t) (l := c.line) (c := lineSettings c false) was]
    rfl

end Sys2Proof.Machine
end

section
/-! SUPPORT. The exchanges, the turn arbiter and the refresh frames (R137 to R149). -/

namespace Sys2Proof.Machine

open Sys2Proof

variable (s : State)

/-! ## The decision table -/

theorem grant_of_empty {y : Line} (idle : y.turn = .idle) (enabled : y.settings.enabled = true) (empty : y.queue = [])
    (now slots : Nat) : y.grant now slots = if y.refreshDue && decide (0 < slots) then .refresh false else .nothing := by
  rw [Line.grant, if_neg (by simp [idle, enabled]), empty]

theorem grant_of_waiting {y : Line} (idle : y.turn = .idle) (enabled : y.settings.enabled = true) {e : QueryEntry}
    {rest : List QueryEntry} (queue : y.queue = e :: rest) (now slots : Nat) : y.grant now slots =
      if !y.claimed now || decide (y.threshold ≤ y.wait) then .query e rest
      else if y.refreshDue && decide (0 < slots) then .refresh true else .nothing := by
  rw [Line.grant, if_neg (by simp [idle, enabled]), queue]

theorem threshold_eq (y : Line) :
    y.threshold = if ∃ x ∈ y.queue, x.priority = .urgent then 1 else y.settings.maxWait := by
  have urgent : (y.queue.any fun e => e.priority == .urgent) = true ↔ ∃ x ∈ y.queue, x.priority = .urgent := by
    rw [List.any_eq_true]
    exact exists_congr fun x => and_congr_right fun _ => beq_iff_eq
  rw [Line.threshold, Line.priority]
  by_cases some : ∃ x ∈ y.queue, x.priority = .urgent
  · rw [if_pos some, if_pos (urgent.mpr some)]
  · rw [if_neg some, if_neg (mt urgent.mp some)]

/-- R139: the refresh claim. -/
theorem claimed_iff (y : Line) (now : Nat) :
    y.claimed now = true ↔ y.refreshDue = true ∨ ∃ d, y.refreshTimer = some d ∧ d - now < 3464 := by
  rw [Line.claimed, Bool.or_eq_true, Option.any_eq_true _ _]
  exact or_congr_right (exists_congr fun d => and_congr_right fun _ => decide_eq_true_iff)

theorem effectiveMs_eq (refreshMs slots : Nat) :
    effectiveMs refreshMs slots = max refreshMs ((156 + 44 * slots + 999) / 1000) := by
  rw [effectiveMs, ceilDiv, frameTime, Nat.add_sub_assoc (by decide)]

/-! ## What a decision does -/

theorem decideTurn_nothing {s : State} {l : Nat} (granted : (s.line l).grant s.now (s.slotCount l) = .nothing) :
    s.decideTurn l = s := by
  rw [State.decideTurn, granted]

theorem startRefresh_eq (l : Nat) : s.startRefresh l = s.setLine l ((s.line l).refreshed s l) := rfl

/-- R141, R142: a refresh frame that goes ahead of a query, or of none. -/
theorem decideTurn_refresh {s : State} {l : Nat} {ahead : Bool}
    (granted : (s.line l).grant s.now (s.slotCount l) = .refresh ahead) : s.decideTurn l =
      s.setLine l { (s.line l).refreshed s l with wait := if ahead then (s.line l).wait + 1 else (s.line l).wait } := by
  rw [State.decideTurn, granted]
  cases ahead with
  | false => exact startRefresh_eq s l
  | true =>
    have built (y z : Line) : z.refreshed (s.setLine l y) l = z.refreshed s l := refreshed_of_same rfl z l
    dsimp only
    rw [startRefresh_eq, setLine_setLine, line_setLine, if_pos rfl, built]
    rfl

theorem decideTurn_query {s : State} {l : Nat} {e : QueryEntry} {rest : List QueryEntry}
    (granted : (s.line l).grant s.now (s.slotCount l) = .query e rest) : s.decideTurn l = s.startExchange l e rest := by
  rw [State.decideTurn, granted]

theorem judgeOf_settled (l h : Nat) : (s.judgeOf l h).settled = true ↔ ∃ m, s.motion h = some m ∧ m.settle = 500 := by
  rw [State.judgeOf, Option.any_eq_true _ _]
  exact exists_congr fun m => and_congr_right fun _ => beq_iff_eq

theorem judgeOf_values (l h : Nat) : (s.judgeOf l h).values =
    ((s.line l).snapshot.find? fun e => decide (e.head = h)).map (fun e => (e.pan, e.tilt)) := by
  have same : (fun e : LastSent => e.head == h) = fun e => decide (e.head = h) := funext fun _ => beq_eq_decide _ _
  rw [State.judgeOf, same]

/-- R138: the values of a query frame. -/
def Judge.sent (j : Judge) : List Byte :=
  match j.values with
  | some v => bytes16 v.1 ++ bytes16 v.2
  | none => [0#8, 0#8, 0#8, 0#8]

theorem queryFrame_eq (base : Nat) (kind : QueryKind) (j : Judge) : queryFrame base kind j =
    [0x71#8, BitVec.ofNat 8 (base / 256), BitVec.ofNat 8 base, kind.code] ++ j.sent := rfl

theorem baseOf_placed {s : State} {h : Nat} {p : Placement} (placed : s.placement h = some p) : s.baseOf h = p.base := by
  rw [State.baseOf, placed]

/-- Settles O55: the table, then what each grant does. -/
theorem arbiterFollowsItsTable : Obligations.ArbiterFollowsItsTable := by
  refine ⟨fun y now slots => ⟨fun busy => if_pos (by simpa using busy), fun idle enabled =>
      ⟨fun empty due => ?_, fun empty due some => ?_, fun e rest queue => ⟨_, rfl, fun unclaimed => ?_, fun claimed reached => ?_, fun claimed due some below => ?_,
        fun claimed due below => ?_⟩⟩⟩,
    claimed_iff, effectiveMs_eq, ?_⟩
  · rw [grant_of_empty idle enabled empty, due]
    rfl
  · rw [grant_of_empty idle enabled empty, due, decide_eq_true some]
    rfl
  · rw [grant_of_waiting idle enabled queue, unclaimed]
    rfl
  · rw [grant_of_waiting idle enabled queue, claimed, decide_eq_true (threshold_eq y ▸ reached)]
    rfl
  · rw [grant_of_waiting idle enabled queue, claimed, decide_eq_false (threshold_eq y ▸ below.not_ge), due, decide_eq_true some]
    rfl
  · rw [grant_of_waiting idle enabled queue, claimed, decide_eq_false (threshold_eq y ▸ below.not_ge), due]
    rfl
  · rintro s l _ rfl
    refine ⟨decideTurn_nothing, fun ahead => decideTurn_refresh, fun e rest p granted placed =>
      ⟨s.judgeOf l e.head, (s.judgeOf l e.head).sent, judgeOf_settled s l e.head, fun missing => ?_, fun x found => ?_, ?_⟩⟩
    · have none : (s.judgeOf l e.head).values = none := by
        rw [judgeOf_values, List.find?_eq_none.mpr fun x hx => by simpa using missing x hx]
        rfl
      rw [Judge.sent, none]
      exact ⟨rfl, rfl⟩
    · have some : (s.judgeOf l e.head).values = some (x.pan, x.tilt) := by
        rw [judgeOf_values, found]
        rfl
      rw [Judge.sent, some]
      exact ⟨rfl, rfl⟩
    · rw [decideTurn_query granted, State.startExchange, baseOf_placed placed]
      dsimp only
      rw [queryFrame_eq]
      cases e.kind <;> rfl

/-! ## Refresh frames -/

theorem refreshExpiry_running {s : State} {l : Nat} (runs : (s.line l).refreshTimer ≠ none) : s.refreshExpiry l =
    (s.setLine l { s.line l with refreshTimer := none, refreshDue := true }).decideTurn l :=
  if_pos (Option.isSome_iff_ne_none.mpr runs)

/-- R140, R142: a line without a query that turns to a refresh frame. -/
theorem decideTurn_setLine_refreshes (l : Nat) {y : Line} (idle : y.turn = .idle) (enabled : y.settings.enabled = true)
    (empty : y.queue = []) (due : y.refreshDue = true) (slots : 0 < s.slotCount l) :
    (s.setLine l y).decideTurn l = s.setLine l (y.refreshed s l) := by
  have line : (s.setLine l y).line l = y := (line_setLine s l l y).trans (if_pos rfl)
  have granted : ((s.setLine l y).line l).grant (s.setLine l y).now ((s.setLine l y).slotCount l) = .refresh false := by
    rw [line, grant_of_empty idle enabled empty, due, decide_eq_true (show 0 < (s.setLine l y).slotCount l from slots)]
    rfl
  rw [decideTurn_refresh granted, line, setLine_setLine, refreshed_of_same (s := s) (u := s.setLine l y) rfl]
  rfl

theorem refreshEnd_frame {s : State} {l : Nat} {slots : List Byte} (turn : (s.line l).turn = .frame slots) :
    s.refreshEnd l = s.endTurn l := by
  rw [State.refreshEnd, turn]

theorem refreshExpiry_frame {s : State} {l : Nat} (runs : (s.line l).refreshTimer ≠ none) (idle : (s.line l).turn = .idle)
    (enabled : (s.line l).settings.enabled = true) (empty : (s.line l).queue = []) (slots : 0 < s.slotCount l) :
    s.refreshExpiry l = s.setLine l ((s.line l).refreshed s l) := by
  rw [refreshExpiry_running runs]
  exact (decideTurn_setLine_refreshes s l (y := { s.line l with refreshTimer := none, refreshDue := true }) idle enabled
    empty rfl slots).trans rfl

theorem endTurn_waits {s : State} {l : Nat} (empty : (s.line l).queue = []) (due : (s.line l).refreshDue = false) :
    s.endTurn l = s.setLine l { s.line l with turn := .idle } := by
  have line : (s.setLine l { s.line l with turn := .idle }).line l = { s.line l with turn := .idle } :=
    (line_setLine s l l _).trans (if_pos rfl)
  refine decideTurn_waits (by rw [line]; exact empty) ?_
  rw [line]
  exact fun refreshes => ne_true_of_eq_false due refreshes.2.2.1

/-- Settles O56. -/
theorem refreshExpirySendsAFrame : Obligations.RefreshExpirySendsAFrame := by
  refine fun t l s => ⟨fun runs idle enabled empty slots => ?_, fun frame turn empty due => ?_⟩
  · exact congrArg (fun u : State => Host.Outcome.next u.startTransmit)
      ((refreshExpiry_frame (s := s.advance t) runs idle enabled empty slots).trans rfl)
  · exact congrArg (fun u : State => Host.Outcome.next u.startTransmit)
      ((refreshEnd_frame (s := s.advance t) turn).trans (endTurn_waits (s := s.advance t) empty due))

end Sys2Proof.Machine
end

section
/-! SUPPORT. A query from its request to the end of its exchange (R143 to R146, R149, R151). -/

namespace Sys2Proof.Machine

open Sys2Proof

variable (s : State)

/-! ## QUERY HEAD -/

theorem accepts_iff (y : Line) : y.accepts = true ↔ y.settings.enabled = true ∧ y.queue.length < 8 := by
  rw [Line.accepts, Bool.and_eq_true, decide_eq_true_iff]
  rfl

/-- R143: an entry added at the tail, and the decision that follows. -/
def State.queued (s : State) (l : Nat) (e : QueryEntry) : State :=
  (s.setLine l { s.line l with queue := (s.line l).queue ++ [e] }).decideTurn l

theorem addQuery_accepted {s : State} {l : Nat} (accepts : (s.line l).accepts = true) (e : QueryEntry) :
    s.addQuery l e = some (s.queued l e) :=
  if_pos accepts

theorem addQuery_refused {s : State} {l : Nat} (full : (s.line l).accepts = false) (e : QueryEntry) : s.addQuery l e = none :=
  if_neg (ne_true_of_eq_false full)

theorem hasFeedback_of {s : State} {h : Nat} {q : Personality} (hq : s.personalityOf h = some q) (feedback : q.feedback = true) :
    (s.personalityOf h).any (fun q => q.feedback) = true := by
  rw [hq]
  exact feedback

theorem personalityOf_placed {s : State} {h : Nat} {p : Placement} {q : Personality} (placed : s.placement h = some p)
    (defined : s.personality p.personality = some q) : s.personalityOf h = some q := by
  rw [State.personalityOf, placed]
  exact defined

theorem ownQueryHead_accepted {s : State} {h : Nat} {p : Placement} {q : Personality} (hh : h < 512)
    (placed : s.placement h = some p) (defined : s.personality p.personality = some q) (feedback : q.feedback = true)
    (accepts : (s.line p.line).accepts = true) (pr : Priority) (tag : Byte) :
    ownQueryHead h (some pr) tag s = (s.queued p.line (consoleQuery h pr tag), .deferred) := by
  rw [ownQueryHead, if_neg (show ¬ Config.heads ≤ h from hh.not_ge), placed]
  dsimp only
  rw [hasFeedback_of (personalityOf_placed placed defined) feedback, enabled_of_accepts accepts, addQuery_accepted accepts]
  rfl

/-! ## The end of an exchange -/

theorem queryEnd_sending {s : State} {l : Nat} {x : Exchange} (turn : (s.line l).turn = .exchange x)
    (sending : x.phase = .sending) : s.queryEnd l = if x.abandoned then (s.abortEntry x.entry).endTurn l
      else s.setLine l { s.line l with turn := .exchange { x with phase := .window s.now, frame := [] } } := by
  rw [State.queryEnd, turn]
  dsimp only
  rw [sending]

theorem endExchange_window {s : State} {l w : Nat} {x : Exchange} (turn : (s.line l).turn = .exchange x)
    (window : x.phase = .window w) (outcome : Option Reported) : s.endExchange l outcome = (s.handOn x outcome).endTurn l := by
  rw [State.endExchange, turn]
  dsimp only
  rw [window]

theorem handOn_kept {x : Exchange} (kept : x.discard = .kept) (held : x.abandoned = false) (outcome : Option Reported) :
    s.handOn x outcome = (s.supervise x outcome).answerQuery x.entry outcome := by
  rw [State.handOn, held, kept]
  rfl

/-- R161: what a discarded exchange releases. -/
def State.releasedBy (s : State) : Discard → State
  | .unpatched true => (s.lowerHoming 1).dispatch
  | .unpatched false | .kept | .repatched | .loaded => s

theorem releasedBy_other {d : Discard} (other : d ≠ .unpatched true) : s.releasedBy d = s := by
  cases d with
  | unpatched home =>
    cases home with
    | true => exact absurd rfl other
    | false => rfl
  | _ => rfl

theorem handOn_discarded {x : Exchange} (discarded : x.discard ≠ .kept) (held : x.abandoned = false) (outcome : Option Reported) :
    s.handOn x outcome = (s.releasedBy x.discard).abortEntry x.entry := by
  rw [State.handOn, held]
  cases discard : x.discard with
  | kept => exact absurd discard discarded
  | unpatched home => cases home <;> rfl
  | repatched => rfl
  | loaded => rfl

theorem abortEntry_console {e : QueryEntry} {tag : Byte} (console : e.origin = .console tag) :
    s.abortEntry e = s.abortQuery tag := by
  rw [State.abortEntry, console]

theorem abortEntry_own {e : QueryEntry} (own : e.origin = .audit ∨ e.origin = .supervision) : s.abortEntry e = s := by
  rw [State.abortEntry]
  rcases own with audit | supervision
  · rw [audit]
  · rw [supervision]

/-! ## Replies of the head lines -/

theorem reportedBy_bad {c : ReplyChars} (bad : c.header ≠ 0x72#8 ∨ c.stopBits = false ∨
    c.check ≠ c.flags + c.panHigh + c.panLow + c.tiltHigh + c.tiltLow + c.faults) : reportedBy c = none := by
  refine if_neg ?_
  rintro ⟨header, stop, check⟩
  rcases bad with bad | bad | bad
  · exact bad header
  · exact ne_true_of_eq_false bad stop
  · exact bad check

/-- Settles O54, from the entry to the three ends of the exchange. -/
theorem queryExchangeRunsToItsEnd : Obligations.QueryExchangeRunsToItsEnd := by
  have nexts {u v : State} (same : u = v) : (Host.Outcome.next u.startTransmit : Host.Outcome State Fault Refusal) =
    .next v.startTransmit := congrArg (fun w : State => Host.Outcome.next w.startTransmit) same
  refine ⟨fun t tag h pr p q s admits hh placed defined feedback enabled room => ?_,
    fun t l x s turn sending held => nexts ?_, fun t l x w c s turn window kept held => ?_,
    fun t l x s turn => ⟨fun u => u.abortEntry x.entry, fun tag console u => abortEntry_console u console,
      fun own u => abortEntry_own u own, fun sending abandoned => nexts ?_, fun w window held discarded =>
      ⟨(s.advance t).releasedBy x.discard, releasedBy_other _, fun unpatched => ?_, ?_⟩⟩⟩
  · exact request_deferred s t tag kindQueryHead _ _ admits (ownQueryHead_accepted (s := s.advance t) hh placed defined feedback
      ((accepts_iff _).mpr ⟨enabled, room⟩) pr tag)
  · exact (queryEnd_sending (s := s.advance t) turn sending).trans (if_neg (ne_true_of_eq_false held))
  · have ends (outcome : Option Reported) : (s.advance t).endExchange l outcome =
        (((s.advance t).supervise x outcome).answerQuery x.entry outcome).endTurn l := by
      rw [endExchange_window (s := s.advance t) turn window, handOn_kept _ kept held]
    refine ⟨nexts (ends none), nexts (ends none), fun bad => nexts ?_, fun header stop check => ⟨_, rfl, nexts ?_⟩⟩
    · exact (congrArg ((s.advance t).endExchange l) (reportedBy_bad bad)).trans (ends none)
    · exact (congrArg ((s.advance t).endExchange l) (if_pos ⟨header, stop, check⟩)).trans (ends _)
  · exact (queryEnd_sending (s := s.advance t) turn sending).trans (if_pos abandoned)
  · rw [unpatched]
    rfl
  · have ends (outcome : Option Reported) : (s.advance t).endExchange l outcome =
        (((s.advance t).releasedBy x.discard).abortEntry x.entry).endTurn l := by
      rw [endExchange_window (s := s.advance t) turn window, handOn_discarded _ discarded held]
    exact ⟨nexts (ends none), nexts (ends none), fun c => nexts (ends (reportedBy c))⟩

end Sys2Proof.Machine
end

section
/-! SUPPORT. The audit of a line and the supervision poll (R147, R154, R155). -/

namespace Sys2Proof.Machine

open Sys2Proof

variable (s : State)

/-! ## The first of an ascending list -/

/-- The first of an ascending list that fits is the least that fits. -/
theorem find?_of_least {l : List Nat} (sorted : l.Pairwise (· < ·)) {p : Nat → Bool} {h : Nat} (hh : h ∈ l) (fits : p h = true)
    (least : ∀ k ∈ l, p k = true → h ≤ k) : l.find? p = some h := by
  obtain ⟨before, behind, rfl⟩ := List.append_of_mem hh
  obtain ⟨_, _, apart⟩ := List.pairwise_append.mp sorted
  have refused : before.find? p = none := List.find?_eq_none.mpr fun k hk fit =>
    (apart k hk h List.mem_cons_self).not_ge (least k (List.mem_append_left _ hk) fit)
  rw [List.find?_append, refused, Option.none_or, List.find?_cons_of_pos fits]

theorem head?_of_least {l : List Nat} (sorted : l.Pairwise (· < ·)) {h : Nat} (hh : h ∈ l) (least : ∀ k ∈ l, h ≤ k) :
    l.head? = some h := by
  cases l with
  | nil => cases hh
  | cons k ks =>
    rcases List.mem_cons.mp hh with rfl | later
    · rfl
    · exact absurd ((List.pairwise_cons.mp sorted).1 h later) (least k List.mem_cons_self).not_gt

/-! ## The head to audit -/

theorem auditable_iff (h : Nat) : s.auditable h = true ↔
    (s.watch h).condition ≠ .homing ∧ ∃ q, s.personalityOf h = some q ∧ q.feedback = true := by
  rw [State.auditable, Bool.and_eq_true, Option.any_eq_true _ _, decide_eq_true_iff, and_comm]

theorem mem_audited (l h : Nat) : h ∈ (s.headsOn l).filter s.auditable ↔ h ∈ s.headsOn l ∧ s.auditable h = true :=
  List.mem_filter

theorem nextAudit_first {s : State} {l : Nat} (none : (s.line l).auditCursor = none) :
    s.nextAudit l = ((s.headsOn l).filter s.auditable).head? := by
  rw [State.nextAudit, none]

theorem nextAudit_after {s : State} {l c h : Nat} (cursor : (s.line l).auditCursor = some c)
    (above : ((s.headsOn l).filter s.auditable).find? (fun h => decide (c < h)) = some h) : s.nextAudit l = some h := by
  rw [State.nextAudit, cursor]
  dsimp only
  rw [above]

theorem nextAudit_wraps {s : State} {l c : Nat} (cursor : (s.line l).auditCursor = some c)
    (none : ((s.headsOn l).filter s.auditable).find? (fun h => decide (c < h)) = none) :
    s.nextAudit l = ((s.headsOn l).filter s.auditable).head? := by
  rw [State.nextAudit, cursor]
  dsimp only
  rw [none]

theorem nextAudit_none {s : State} {l : Nat} (empty : (s.headsOn l).filter s.auditable = []) : s.nextAudit l = none := by
  cases cursor : (s.line l).auditCursor with
  | none => rw [nextAudit_first cursor, empty]; rfl
  | some c =>
    have above : ((s.headsOn l).filter s.auditable).find? (fun h => decide (c < h)) = none := by rw [empty]; rfl
    rw [nextAudit_wraps cursor above, empty]
    rfl

/-! ## The audit of a line -/

theorem hasEntry_iff (y : Line) (h : Nat) : y.hasEntry h = true ↔ ∃ e ∈ y.queue, e.head = h := by
  rw [Line.hasEntry, List.any_eq_true]
  exact exists_congr fun e => and_congr_right fun _ => beq_iff_eq

theorem tryQuery_accepted {s : State} {l : Nat} (accepts : (s.line l).accepts = true) (e : QueryEntry) :
    s.tryQuery l e = s.queued l e := by
  rw [State.tryQuery, addQuery_accepted accepts]

theorem tryQuery_refused {s : State} {l : Nat} (full : (s.line l).accepts = false) (e : QueryEntry) : s.tryQuery l e = s := by
  rw [State.tryQuery, addQuery_refused full]

/-- R147, R154: the line of an audit that found a head. -/
def Line.audited (y : Line) (now h : Nat) : Line :=
  { y with auditTimer := some (now + 1000 * y.settings.auditMs), auditCursor := some h }

theorem auditExpiry_running {s : State} {l : Nat} (runs : (s.line l).auditTimer ≠ none) : s.auditExpiry l =
    (s.setLine l { s.line l with auditTimer := some (s.now + 1000 * (s.line l).settings.auditMs) }).audit l :=
  if_pos (Option.isSome_iff_ne_none.mpr runs)

theorem nextAudit_reloaded (l : Nat) (timer : Option Nat) :
    (s.setLine l { s.line l with auditTimer := timer }).nextAudit l = s.nextAudit l := by
  have line : (s.setLine l { s.line l with auditTimer := timer }).line l = { s.line l with auditTimer := timer } :=
    (line_setLine s l l _).trans (if_pos rfl)
  have heads : (s.setLine l { s.line l with auditTimer := timer }).headsOn l = s.headsOn l := rfl
  have auditable : (s.setLine l { s.line l with auditTimer := timer }).auditable = s.auditable := rfl
  rw [State.nextAudit, State.nextAudit, line, heads, auditable]

theorem audit_none {s : State} {l : Nat} (none : s.nextAudit l = none) : s.audit l = s := by
  rw [State.audit, none]

/-- R154: an audit that found a head asks the line, unless an entry for the head is queued. -/
theorem auditExpiry_found {s : State} {l h : Nat} (runs : (s.line l).auditTimer ≠ none) (found : s.nextAudit l = some h) :
    s.auditExpiry l = if (s.line l).hasEntry h then s.setLine l ((s.line l).audited s.now h)
      else (s.setLine l ((s.line l).audited s.now h)).tryQuery l (auditQuery h) := by
  have line (y : Line) : (s.setLine l y).line l = y := (line_setLine s l l y).trans (if_pos rfl)
  rw [auditExpiry_running runs, State.audit, nextAudit_reloaded, found]
  dsimp only
  rw [line, setLine_setLine, line]
  rfl

theorem audited_accepts (y : Line) (now h : Nat) : (y.audited now h).accepts = y.accepts := rfl

/-- R143: an audit that is refused, or that finds an entry queued, leaves the line but for the timer and the cursor. -/
theorem auditExpiry_skips {s : State} {l h : Nat} (runs : (s.line l).auditTimer ≠ none) (found : s.nextAudit l = some h)
    (skips : (∃ e ∈ (s.line l).queue, e.head = h) ∨ (s.line l).accepts = false) :
    s.auditExpiry l = s.setLine l ((s.line l).audited s.now h) := by
  rw [auditExpiry_found runs found]
  rcases skips with queued | full
  · exact if_pos ((hasEntry_iff _ h).mpr queued)
  · rw [tryQuery_refused (by rw [line_setLine, if_pos rfl]; exact full)]
    exact ite_self _

theorem auditExpiry_asks {s : State} {l h : Nat} (runs : (s.line l).auditTimer ≠ none) (found : s.nextAudit l = some h)
    (fresh : ∀ e ∈ (s.line l).queue, e.head ≠ h) (accepts : (s.line l).accepts = true) : s.auditExpiry l =
      (s.setLine l { (s.line l).audited s.now h with queue := (s.line l).queue ++ [auditQuery h] }).decideTurn l := by
  have line : (s.setLine l ((s.line l).audited s.now h)).line l = (s.line l).audited s.now h :=
    (line_setLine s l l _).trans (if_pos rfl)
  have unasked : ¬ (s.line l).hasEntry h = true := by
    rw [hasEntry_iff]
    rintro ⟨e, he, own⟩
    exact fresh e he own
  rw [auditExpiry_found runs found, if_neg unasked, tryQuery_accepted (by rw [line]; exact accepts), State.queued, line,
    setLine_setLine]
  rfl

/-- R154: an audit that found a head moves the cursor to it, asked or not. -/
theorem auditExpiry_moves {s : State} {l h : Nat} (runs : (s.line l).auditTimer ≠ none) (found : s.nextAudit l = some h) :
    ((s.auditExpiry l).line l).auditCursor = some h
    ∧ ((s.auditExpiry l).line l).auditTimer = some (s.now + 1000 * (s.line l).settings.auditMs)
    ∧ (∀ k, k ≠ l → (s.auditExpiry l).line k = s.line k) ∧ SameBut State.sansLines s (s.auditExpiry l) := by
  by_cases skips : (∃ e ∈ (s.line l).queue, e.head = h) ∨ (s.line l).accepts = false
  · rw [auditExpiry_skips runs found skips, line_setLine, if_pos rfl]
    exact ⟨rfl, rfl, fun k apart => (line_setLine s l k _).trans (if_neg apart), rfl⟩
  · obtain ⟨fresh, accepts⟩ := not_or.mp skips
    rw [auditExpiry_asks runs found (fun e he own => fresh ⟨e, he, own⟩) (Bool.eq_true_of_not_eq_false accepts)]
    have decided := decideTurn_decided (s.setLine l { (s.line l).audited s.now h with
      queue := (s.line l).queue ++ [auditQuery h] }) l
    rw [line_setLine, if_pos rfl] at decided
    exact ⟨decided.auditCursor, decided.auditTimer,
      fun k apart => (decideTurn_other _ l k apart).trans ((line_setLine s l k _).trans (if_neg apart)),
      SameBut.trans (u := s.setLine l { (s.line l).audited s.now h with queue := (s.line l).queue ++ [auditQuery h] }) rfl
        (decideTurn_same _ l)⟩

/-! ## The poll -/

theorem pollHead_other {s : State} {h : Nat} (other : (s.watch h).condition ≠ .homing) : s.pollHead h = s := by
  rw [State.pollHead]
  split
  · rfl
  · exact if_neg fun homing => other homing.1

theorem pollHead_skips {s : State} {h : Nat} {p : Placement} (placed : s.placement h = some p)
    (skips : (∃ e ∈ (s.line p.line).queue, e.head = h) ∨ (s.line p.line).accepts = false) : s.pollHead h = s := by
  rw [State.pollHead, placed]
  rcases skips with queued | full
  · exact if_neg fun homing => homing.2 ((hasEntry_iff _ h).mpr queued)
  · dsimp only
    rw [tryQuery_refused full]
    exact ite_self _

theorem pollHead_asks {s : State} {h : Nat} {p : Placement} (homing : (s.watch h).condition = .homing)
    (placed : s.placement h = some p) (fresh : ∀ e ∈ (s.line p.line).queue, e.head ≠ h) (accepts : (s.line p.line).accepts = true) :
    s.pollHead h = s.queued p.line (pollQuery h) := by
  have unasked : ¬ (s.line p.line).hasEntry h = true := by
    rw [hasEntry_iff]
    rintro ⟨e, he, own⟩
    exact fresh e he own
  rw [State.pollHead, placed]
  exact (if_pos ⟨homing, unasked⟩).trans (tryQuery_accepted accepts _)

theorem tryQuery_same (l : Nat) (e : QueryEntry) : SameBut State.sansLines s (s.tryQuery l e) := by
  by_cases accepts : (s.line l).accepts = true
  · rw [tryQuery_accepted accepts]
    exact SameBut.trans (u := s.setLine l { s.line l with queue := (s.line l).queue ++ [e] }) rfl (decideTurn_same _ l)
  · rw [tryQuery_refused (Bool.eq_false_of_not_eq_true accepts)]
    rfl

theorem pollHead_same (h : Nat) : SameBut State.sansLines s (s.pollHead h) := by
  rw [State.pollHead]
  split
  · rfl
  · split
    · exact tryQuery_same s _ _
    · rfl

/-- R155: the heads that are not HOMING are passed over. -/
theorem foldl_pollHead_filter (hs : List Nat) : hs.foldl State.pollHead s =
    (hs.filter (fun h => decide ((s.watch h).condition = .homing))).foldl State.pollHead s := by
  induction hs generalizing s with
  | nil => rfl
  | cons h hs ih =>
    by_cases homing : (s.watch h).condition = .homing
    · have watch (k : Nat) : (s.pollHead h).watch k = s.watch k := (pollHead_same s h).read (·.watch k) fun _ => rfl
      rw [List.foldl_cons, ih, List.filter_cons_of_pos (by simpa using homing), List.foldl_cons]
      simp only [watch]
    · rw [List.foldl_cons, pollHead_other homing, ih, List.filter_cons_of_neg (by simpa using homing)]

/-- R155: the poll timer runs on. -/
def State.polled (s : State) : State :=
  { s with supervision := { s.supervision with pollTimer := s.now + 250000 } }

theorem poll_eq : s.poll = (((List.range 512).filter (fun h => decide ((s.watch h).condition = .homing))).foldl State.pollHead
    s.polled).dispatch :=
  congrArg State.dispatch (foldl_pollHead_filter s.polled (List.range 512))

theorem dispatch_of_none_waiting {s : State} (empty : s.supervision.rehomeQueue = []) : s.dispatch = s := by
  rw [State.dispatch, empty]
  rfl

theorem filter_range_only {n h : Nat} (hh : h < n) {p : Nat → Bool} (own : p h = true) (other : ∀ k, k ≠ h → p k = false) :
    (List.range n).filter p = [h] := by
  have same : ∀ k ∈ List.range n, p k = (k == h) := fun k _ => by
    by_cases e : k = h
    · rw [e, own, beq_self_eq_true]
    · rw [other k e, beq_eq_false_iff_ne.mpr e]
  rw [List.filter_congr same, List.filter_beq, List.count_eq_one_of_mem List.nodup_range (List.mem_range.mpr hh)]
  rfl

/-- Settles O58, the audit first, then the poll. -/
theorem auditAndPollAskForStatus : Obligations.AuditAndPollAskForStatus := by
  have nexts {u v : State} (same : u = v) : (Host.Outcome.next u.startTransmit : Host.Outcome State Fault Refusal) =
    .next v.startTransmit := congrArg (fun w : State => Host.Outcome.next w.startTransmit) same
  refine ⟨fun t l s runs => ⟨fun none => nexts ?_, fun h found => ?_⟩,
    fun t l h s => ⟨fun runs found => ⟨_, rfl, fun skips => nexts (auditExpiry_skips (s := s.advance t) runs found skips),
        fun fresh accepts => nexts (auditExpiry_asks (s := s.advance t) runs found fresh accepts)⟩,
      auditable_iff s, fun sorted on audited => ?_⟩,
    fun t s none empty => nexts ?_, fun t h p s homing only empty hh placed accepts fresh => nexts ?_,
    fun t s => nexts (poll_eq (s.advance t)), fun s h p homing placed => ⟨fun skips => pollHead_skips placed ?_,
      fun fresh enabled room => pollHead_asks homing placed fresh ((accepts_iff _).mpr ⟨enabled, room⟩)⟩⟩
  · refine (auditExpiry_running (s := s.advance t) runs).trans (audit_none ?_)
    exact (nextAudit_reloaded (s.advance t) l _).trans (nextAudit_none (s := s.advance t) none)
  · obtain ⟨cursor, timer, other, same⟩ := auditExpiry_moves (s := s.advance t) runs found
    exact ⟨_, rfl, cursor, timer, other, same.read State.supervision fun _ => rfl, same.read State.patch fun _ => rfl,
      same.read State.link fun _ => rfl⟩
  · have ascending : ((s.headsOn l).filter s.auditable).Pairwise (· < ·) := sorted.filter _
    have member : h ∈ (s.headsOn l).filter s.auditable := (mem_audited s l h).mpr ⟨on, audited⟩
    refine ⟨fun none least => ?_, fun c cursor above least => ?_, fun c cursor low => ?_⟩
    · rw [nextAudit_first none]
      exact head?_of_least ascending member fun k hk => least k ((mem_audited s l k).mp hk).1 ((mem_audited s l k).mp hk).2
    · refine nextAudit_after cursor (find?_of_least ascending member (decide_eq_true above) fun k hk beyond => ?_)
      obtain ⟨there, fit⟩ := (mem_audited s l k).mp hk
      exact least k there fit (of_decide_eq_true beyond)
    · have low (k : Nat) (hk : k ∈ (s.headsOn l).filter s.auditable) : k ≤ c ∧ h ≤ k := by
        obtain ⟨there, fit⟩ := (mem_audited s l k).mp hk
        exact low k there fit
      rw [nextAudit_wraps cursor (List.find?_eq_none.mpr fun k hk beyond => (low k hk).1.not_gt (of_decide_eq_true beyond))]
      exact head?_of_least ascending member fun k hk => (low k hk).2
  · have nobody : (List.range 512).filter (fun h => decide (((s.advance t).watch h).condition = .homing)) = [] :=
      List.filter_eq_nil_iff.mpr fun h _ homing => none h (of_decide_eq_true homing)
    refine (poll_eq (s.advance t)).trans ?_
    rw [nobody]
    exact dispatch_of_none_waiting (s := (s.advance t).polled) empty
  · have alone : (List.range 512).filter (fun h => decide (((s.advance t).watch h).condition = .homing)) = [h] :=
      filter_range_only hh (decide_eq_true homing) fun k apart => decide_eq_false (only k apart)
    have asked : (s.advance t).polled.pollHead h = (s.advance t).polled.queued p.line (pollQuery h) :=
      pollHead_asks (s := (s.advance t).polled) homing placed
        (fun e he own => ne_true_of_eq_false fresh ((hasEntry_iff _ h).mpr ⟨e, he, own⟩)) accepts
    refine (poll_eq (s.advance t)).trans ?_
    rw [alone, List.foldl_cons, List.foldl_nil, asked]
    refine dispatch_of_none_waiting ?_
    exact ((decideTurn_same _ p.line).read (·.supervision.rehomeQueue) fun _ => rfl).trans empty
  · rcases skips with queued | off | full
    · exact .inl queued
    · refine .inr ?_
      rw [Line.accepts, off]
      rfl
    · refine .inr ?_
      rw [← Bool.not_eq_true, accepts_iff]
      exact fun accepts => full.not_gt accepts.2

end Sys2Proof.Machine
end

section
/-! SUPPORT. The re-home dispatch, and the console requests of supervision (R160 to R163). -/

namespace Sys2Proof.Machine

open Sys2Proof

variable (s : State)

/-! ## One head of the dispatch -/

theorem dispatchHead_at_limit {s : State} (full : s.supervision.homingLimit ≤ s.supervision.homingCount) (h : Nat) :
    s.dispatchHead h = s :=
  if_neg full.not_gt

theorem dispatch_at_limit {s : State} (full : s.supervision.homingLimit ≤ s.supervision.homingCount) : s.dispatch = s := by
  rw [State.dispatch]
  induction s.supervision.rehomeQueue with
  | nil => rfl
  | cons h hs ih => rw [List.foldl_cons, dispatchHead_at_limit full, ih]

theorem dispatchHead_refused {s : State} {h : Nat} {p : Placement} (placed : s.placement h = some p)
    (full : (s.line p.line).accepts = false) : s.dispatchHead h = s := by
  rw [State.dispatchHead, placed]
  dsimp only
  rw [addQuery_refused full]
  exact ite_self _

theorem markSent_eq (h : Nat) : s.markSent h = { s.setWatch h { s.watch h with stage := .sent } with
    supervision := { (s.setWatch h { s.watch h with stage := .sent }).supervision with
      rehomeQueue := s.supervision.rehomeQueue.erase h, homingCount := s.supervision.homingCount + 1 } } := rfl

theorem queued_same (l : Nat) (e : QueryEntry) : SameBut State.sansLines s (s.queued l e) :=
  SameBut.trans (u := s.setLine l { s.line l with queue := (s.line l).queue ++ [e] }) rfl (decideTurn_same _ l)

/-- R160: a head whose line takes its HOME entry. -/
theorem dispatchHead_sends {s : State} {h : Nat} {p : Placement} (room : s.supervision.homingCount < s.supervision.homingLimit)
    (placed : s.placement h = some p) (accepts : (s.line p.line).accepts = true) :
    s.dispatchHead h = (s.queued p.line (homeQuery h)).markSent h := by
  rw [State.dispatchHead, if_pos room, placed]
  dsimp only
  rw [addQuery_accepted accepts]
  rfl

/-- R160: what the sending of a HOME entry does to supervision. -/
theorem dispatchHead_sends_supervision {s : State} {h : Nat} {p : Placement}
    (room : s.supervision.homingCount < s.supervision.homingLimit) (placed : s.placement h = some p)
    (accepts : (s.line p.line).accepts = true) :
    (s.dispatchHead h).supervision.rehomeQueue = s.supervision.rehomeQueue.erase h
    ∧ (s.dispatchHead h).supervision.homingCount = s.supervision.homingCount + 1
    ∧ (s.dispatchHead h).watch h = { s.watch h with stage := .sent } := by
  have supervision : (s.queued p.line (homeQuery h)).supervision = s.supervision :=
    (queued_same s p.line _).read State.supervision fun _ => rfl
  rw [dispatchHead_sends room placed accepts]
  refine ⟨?_, ?_, ?_⟩
  · rw [markSent_eq, supervision]
  · rw [markSent_eq, supervision]
  · rw [markSent_watch, if_pos rfl, watch_of_supervision supervision]

/-! ## REHOME HEAD -/

theorem ownRehomeHead_accepted {s : State} {h : Nat} {q : Personality} (free : s.loading = false) (hh : h < 512)
    (hq : s.personalityOf h = some q) (feedback : q.feedback = true) (fit : (s.watch h).condition ≠ .faulted)
    (resting : (s.watch h).stage = .none) (tag : Byte) : ownRehomeHead h tag s = accept (s.joinRehome h).dispatch
      (.rehome (placeIn (s.joinRehome h).dispatch.supervision.rehomeQueue h)) := by
  rw [ownRehomeHead, if_neg (ne_true_of_eq_false free), if_neg (show ¬ Config.heads ≤ h from hh.not_ge),
    patched_of_personalityOf s hq, hasFeedback_of hq feedback, decide_eq_false fit, resting]
  rfl

theorem joinRehome_watch (h : Nat) : (s.joinRehome h).watch h = { s.watch h with stage := .queued } :=
  (watch_setWatch s h h _).trans (if_pos rfl)

theorem joinRehome_queue (h : Nat) : (s.joinRehome h).supervision.rehomeQueue = s.supervision.rehomeQueue ++ [h] := rfl

/-- R162: a head that joins an empty queue is the only one the dispatch visits. -/
theorem dispatch_of_joined {s : State} (empty : s.supervision.rehomeQueue = []) (h : Nat) :
    (s.joinRehome h).dispatch = (s.joinRehome h).dispatchHead h := by
  rw [State.dispatch, joinRehome_queue, empty]
  rfl

/-- Settles O59. -/
theorem dispatchSendsHomeQueries : Obligations.DispatchSendsHomeQueries := by
  refine ⟨⟨fun s => rfl, fun s h full => dispatchHead_at_limit full h, fun s h p room placed => ⟨fun refused => ?_,
      fun enabled short => ⟨_, _, rfl, rfl, ?_⟩⟩⟩,
    fun t tag h p q s admits idle hh placed defined feedback fit resting empty room enabled short => ?_⟩
  · refine dispatchHead_refused placed ?_
    rw [← Bool.not_eq_true, accepts_iff]
    rintro ⟨enabled, short⟩
    exact refused.elim (ne_false_of_eq_true enabled) short.not_ge
  · have supervision : (s.queued p.line (homeQuery h)).supervision = s.supervision :=
      (queued_same s p.line _).read State.supervision fun _ => rfl
    rw [dispatchHead_sends room placed ((accepts_iff _).mpr ⟨enabled, short⟩), markSent_eq, supervision,
      watch_of_supervision supervision]
    rfl
  · obtain ⟨queue, count, watch⟩ := dispatchHead_sends_supervision (s := (s.advance t).joinRehome h) room placed
      ((accepts_iff _).mpr ⟨enabled, short⟩)
    have emptied : (((s.advance t).joinRehome h).dispatchHead h).supervision.rehomeQueue = [] := by
      rw [queue, joinRehome_queue, show (s.advance t).supervision.rehomeQueue = [] from empty]
      simp
    refine ⟨_, rfl, ?_, emptied, by rw [watch], by rw [watch, joinRehome_watch]; rfl, count⟩
    refine request_reply s t tag 0x5C#8 _ _ _ _ admits ?_
    rw [ownRehomeHead_accepted (s := s.advance t) idle hh (personalityOf_placed placed defined) feedback fit resting,
      dispatch_of_joined (s := s.advance t) empty, emptied]
    rfl

/-! ## Conditions -/

theorem moveCondition_unchanged {s : State} {h : Nat} {w : Watch} (same : (s.watch h).condition = w.condition)
    (c : ConditionCause) : s.moveCondition h w c = s.setWatch h w :=
  if_pos same

theorem moveCondition_changed {s : State} {h : Nat} {w : Watch} (changed : (s.watch h).condition ≠ w.condition)
    (c : ConditionCause) : s.moveCondition h w c =
      (s.setWatch h w).notify (.headCondition h (s.watch h).condition w.condition c w.strikes w.misses) :=
  if_neg changed

theorem homingExpiry_homing {s : State} {h : Nat} (homing : (s.watch h).condition = .homing)
    (deadline : (s.watch h).deadline ≠ none) : s.homingExpiry h =
      (((s.setWatch h { s.watch h with condition := .faulted, stage := .none, deadline := none }).notify
        (.headCondition h .homing .faulted .deadline (s.watch h).strikes (s.watch h).misses)).lowerHoming 1).dispatch := by
  have changed : (s.watch h).condition ≠ .faulted := by rw [homing]; exact nofun
  rw [State.homingExpiry, if_pos ⟨homing, Option.isSome_iff_ne_none.mpr deadline⟩, moveCondition_changed changed, homing]

/-- R163: the record of a head whose condition is cleared. -/
def Watch.cleared (w : Watch) : Watch := ⟨.active, 0, 0, w.lastReply, .none, none⟩

/-- R163, R164: what tells that a condition was cleared. -/
def State.clearTold (s : State) (h : Nat) (before : Condition) : State :=
  if before = .active then s else s.notify (.headCondition h before .active .clear 0 0)

theorem moveCondition_clear (h : Nat) : s.moveCondition h (s.watch h).cleared .clear =
    (s.setWatch h (s.watch h).cleared).clearTold h (s.watch h).condition := rfl

theorem clearCondition_rested {s : State} {h : Nat} (resting : (s.watch h).stage = .none) :
    s.clearCondition h = (s.setWatch h (s.watch h).cleared).clearTold h (s.watch h).condition := by
  rw [← moveCondition_clear, State.clearCondition, resting]
  rfl

theorem clearCondition_queued {s : State} {h : Nat} (queued : (s.watch h).stage = .queued) :
    s.clearCondition h = ((s.leaveRehome h).setWatch h (s.watch h).cleared).clearTold h (s.watch h).condition := by
  rw [State.clearCondition, queued]
  rfl

theorem clearCondition_homing {s : State} {h : Nat} (homing : (s.watch h).stage = .homing) : s.clearCondition h =
    (((s.setWatch h (s.watch h).cleared).clearTold h (s.watch h).condition).lowerHoming 1).dispatch := by
  rw [State.clearCondition, homing]
  rfl

theorem clearTold_supervision (h : Nat) (before : Condition) : (s.clearTold h before).supervision = s.supervision := by
  rw [State.clearTold]
  split
  · rfl
  · simp

theorem lowerHoming_eq {s : State} {n : Nat} (count : s.supervision.homingCount = n) :
    s.lowerHoming 1 = { s with supervision := { s.supervision with homingCount := n - 1 } } := by
  rw [← count]
  rfl

theorem clearTold_active (h : Nat) : s.clearTold h .active = s := if_pos rfl

theorem clearTold_other {before : Condition} (other : before ≠ .active) (h : Nat) :
    s.clearTold h before = s.notify (.headCondition h before .active .clear 0 0) :=
  if_neg other

theorem ownClearCondition_accepted {s : State} {h : Nat} (free : s.loading = false) (hh : h < 512) (patched : s.patched h = true)
    (unsent : (s.watch h).stage ≠ .sent) (tag : Byte) :
    ownClearCondition h tag s = accept (s.clearCondition h) (.conditionBefore (s.watch h).condition) := by
  rw [ownClearCondition, if_neg (ne_true_of_eq_false free), if_neg (show ¬ Config.heads ≤ h from hh.not_ge),
    if_neg (by simp [patched]), if_neg unsent]

theorem ownClearCondition_checked {s : State} {h : Nat} (free : s.loading = false) (hh : h < 512) (tag : Byte) :
    ownClearCondition h tag s = if !s.patched h then refuse .notFound s
      else if (s.watch h).stage = .sent then refuse .wrongState s
      else accept (s.clearCondition h) (.conditionBefore (s.watch h).condition) := by
  rw [ownClearCondition, if_neg (ne_true_of_eq_false free), if_neg (show ¬ Config.heads ≤ h from hh.not_ge)]

/-! ## SET AUDIT -/

/-- R163: the state with a homing limit. -/
def State.withLimit (s : State) (limit : Nat) : State := { s with supervision := { s.supervision with homingLimit := limit } }

/-- R160, R163: SET AUDIT, its dispatch run when the limit is changed. -/
def State.audited (s : State) (v : Int) : State :=
  if s.auditLimit v = s.supervision.homingLimit then s.withLimit (s.auditLimit v) else (s.withLimit (s.auditLimit v)).dispatch

theorem ownSetAudit_eq (v : Int) (tag : Byte) : ownSetAudit v tag s = (s.audited v,
    .reply (if v < 1 ∨ 16 < v ∨ clamp 1 16 v < s.supervision.homingCount then .clamped else .ok)
      (.audit (s.auditLimit v) (s.audited v).supervision.homingCount)) := by
  have status : okOrClamped (clamps 1 16 v || decide (clamp 1 16 v < s.supervision.homingCount)) =
      if v < 1 ∨ 16 < v ∨ clamp 1 16 v < s.supervision.homingCount then .clamped else .ok :=
    (okOrClamped_or 1 16 v _).trans (if_congr (by rw [decide_eq_true_iff]; rfl) rfl rfl)
  rw [ownSetAudit, status]
  rfl

theorem audited_of_none_waiting {s : State} (empty : s.supervision.rehomeQueue = []) (v : Int) :
    s.audited v = s.withLimit (s.auditLimit v) := by
  rw [State.audited, dispatch_of_none_waiting (s := s.withLimit (s.auditLimit v)) empty]
  exact ite_self _

/-- Settles O60, request by request. -/
theorem rehomeAndConditionRequests : Obligations.RehomeAndConditionRequests := by
  refine ⟨fun t h s homing deadline => ?_, fun t tag h q s admits idle hh hq feedback fit resting => ⟨_, rfl, ?_, fun full => ?_⟩,
    fun t tag s admits => ⟨fun h hh idle patched resting active => ?_, fun h hh idle patched resting other => ?_,
      fun v empty => ?_⟩,
    fun t tag h s admits => ⟨fun busy => ?_, fun idle bad => ?_, fun idle hh unpatched => ?_, fun idle hh patched sent => ?_,
      fun idle hh patched => ⟨_, fun u => u.clearTold h (s.watch h).condition, rfl, fun active u => ?_, fun other u => ?_,
        fun queued => ?_, fun homing => ⟨_, rfl, ?_⟩⟩⟩,
    fun t tag v s admits => ⟨_, _, (s.advance t).audited v, rfl, rfl, fun same => if_pos same, fun changed => if_neg changed, ?_⟩⟩
  · exact congrArg (fun u : State => Host.Outcome.next u.startTransmit) (homingExpiry_homing (s := s.advance t) homing deadline)
  · exact request_reply s t tag 0x5C#8 _ _ _ _ admits (ownRehomeHead_accepted (s := s.advance t) idle hh hq feedback fit resting tag)
  · rw [dispatch_at_limit (s := (s.advance t).joinRehome h) full, joinRehome_watch]
    exact ⟨rfl, rfl, rfl⟩
  · refine request_reply s t tag 0x5D#8 _ _ _ _ admits ?_
    rw [ownClearCondition_accepted (s := s.advance t) idle hh patched
      (by rw [show ((s.advance t).watch h).stage = .none from resting]; exact nofun),
      clearCondition_rested (s := s.advance t) resting, show ((s.advance t).watch h).condition = .active from active,
      clearTold_active]
    rfl
  · refine request_reply s t tag 0x5D#8 _ _ _ _ admits ?_
    rw [ownClearCondition_accepted (s := s.advance t) idle hh patched
      (by rw [show ((s.advance t).watch h).stage = .none from resting]; exact nofun),
      clearCondition_rested (s := s.advance t) resting,
      clearTold_other _ (show ((s.advance t).watch h).condition ≠ .active from other)]
    rfl
  · refine request_reply s t tag 0x5E#8 _ _ _ _ admits ?_
    rw [ownSetAudit_eq, audited_of_none_waiting (s := s.advance t) empty]
    rfl
  · exact request_reply s t tag 0x5D#8 _ _ _ _ admits (if_pos busy)
  · exact request_reply s t tag 0x5D#8 _ _ _ _ admits
      ((if_neg (ne_true_of_eq_false (show (s.advance t).loading = false from idle))).trans (if_pos bad))
  · exact request_reply s t tag 0x5D#8 _ _ _ _ admits ((ownClearCondition_checked (s := s.advance t) idle hh tag).trans
      (if_pos (by rw [show (s.advance t).patched h = false from unpatched]; rfl)))
  · exact request_reply s t tag 0x5D#8 _ _ _ _ admits ((ownClearCondition_checked (s := s.advance t) idle hh tag).trans
      ((if_neg (by rw [show (s.advance t).patched h = true from patched]; exact nofun)).trans (if_pos sent)))
  · rw [active]
    exact clearTold_active u h
  · exact clearTold_other u other h
  · refine request_reply s t tag 0x5D#8 _ _ _ _ admits ?_
    rw [ownClearCondition_accepted (s := s.advance t) idle hh patched
      (by rw [show ((s.advance t).watch h).stage = .queued from queued]; exact nofun),
      clearCondition_queued (s := s.advance t) queued]
    rfl
  · have clearedCount (u : State) : ((u.setWatch h (u.watch h).cleared).clearTold h (u.watch h).condition).supervision.homingCount =
        u.supervision.homingCount :=
      (congrArg Supervision.homingCount (clearTold_supervision (u.setWatch h (u.watch h).cleared) h _)).trans rfl
    refine request_reply s t tag 0x5D#8 _ _ _ _ admits ?_
    rw [ownClearCondition_accepted (s := s.advance t) idle hh patched
      (by rw [show ((s.advance t).watch h).stage = .homing from homing]; exact nofun),
      clearCondition_homing (s := s.advance t) homing, lowerHoming_eq (clearedCount _)]
    rfl
  · exact request_reply s t tag 0x5E#8 _ _ _ _ admits (ownSetAudit_eq (s.advance t) v tag)

end Sys2Proof.Machine
end

section
/-! SUPPORT. What a reply and a missing reply do to a head (R156 to R159, R161, R164). -/

namespace Sys2Proof.Machine

open Sys2Proof

variable (s : State)

/-! ## The dispatch and a head's record -/

theorem notify_watch (n : Notice) (k : Nat) : (s.notify n).watch k = s.watch k := by
  simp

theorem dispatchHead_watch (h k : Nat) : ∃ stage, (s.dispatchHead h).watch k = { s.watch k with stage := stage } := by
  rcases dispatchHead_cases s h with same | ⟨p, _, _, sent⟩
  · exact ⟨(s.watch k).stage, by rw [same]⟩
  · have kept (y : Line) : ((s.setLine p.line y).decideTurn p.line).watch k = s.watch k :=
      ((decideTurn_same _ p.line).read (·.watch k) fun _ => rfl).trans rfl
    rw [sent, markSent_watch]
    split
    · next own =>
      subst own
      exact ⟨.sent, by rw [kept]⟩
    · exact ⟨(s.watch k).stage, by rw [kept]⟩

/-- R160: the dispatch writes of a head's record the stage alone. -/
theorem dispatch_watch (k : Nat) : ∃ stage, s.dispatch.watch k = { s.watch k with stage := stage } := by
  rw [State.dispatch]
  generalize s.supervision.rehomeQueue = q
  induction q generalizing s with
  | nil => exact ⟨(s.watch k).stage, rfl⟩
  | cons h q ih =>
    obtain ⟨last, rest⟩ := ih (s.dispatchHead h)
    obtain ⟨first, own⟩ := dispatchHead_watch s h k
    exact ⟨last, by rw [List.foldl_cons, rest, own]⟩

theorem dispatch_condition (k : Nat) : (s.dispatch.watch k).condition = (s.watch k).condition := by
  obtain ⟨stage, same⟩ := dispatch_watch s k
  rw [same]

theorem moveCondition_watch (h : Nat) (w : Watch) (c : ConditionCause) : (s.moveCondition h w c).watch h = w := by
  obtain ⟨_, _, _, watch⟩ := moveCondition_supervises s h w c
  rw [watch, if_pos rfl]

theorem lowerHoming_watch (n k : Nat) : (s.lowerHoming n).watch k = s.watch k := rfl

theorem endSent_condition (h : Nat) : ((s.endSent h).watch h).condition = (s.watch h).condition := by
  rw [State.endSent, dispatch_condition, lowerHoming_watch, watch_setWatch, if_pos rfl]

/-! ## The record of a reply -/

/-- R156: a head's record with a reply. -/
def Watch.recorded (w : Watch) (r : Reported) : Watch := { w with lastReply := some ⟨r.pan, r.tilt, r.faults⟩, misses := 0 }

section
variable {s} {h : Nat} {kind : QueryKind} {j : Judge} {r : Reported}

theorem recordReply_unchanged (same : r.faults = (s.watch h).flags) :
    s.recordReply h kind j r = s.setWatch h ((s.watch h).recorded r) :=
  if_pos same

theorem recordReply_told (changed : r.faults ≠ (s.watch h).flags) : s.recordReply h kind j r =
    (s.setWatch h ((s.watch h).recorded r)).notify (.fault h (s.watch h).flags r.faults
      (conditionAfterReply (s.watch h) kind (s.headPatch h).driftTolerance j r)) :=
  if_neg changed

theorem recordReply_reads : (s.recordReply h kind j r).watch h = (s.watch h).recorded r
    ∧ (s.recordReply h kind j r).now = s.now ∧ (s.recordReply h kind j r).headPatch h = s.headPatch h := by
  have watch : (s.setWatch h ((s.watch h).recorded r)).watch h = (s.watch h).recorded r :=
    (watch_setWatch s h h _).trans (if_pos rfl)
  by_cases same : r.faults = (s.watch h).flags
  · rw [recordReply_unchanged same]
    exact ⟨watch, rfl, rfl⟩
  · rw [recordReply_told same, notify_watch]
    exact ⟨watch, (notify_fields _ _).1, (notify_reads _ _).2.1 h⟩

end

/-! ## MOTOR -/

/-- R164: a head that becomes FAULTED by MOTOR. -/
theorem moveCondition_motor {s : State} {h : Nat} {w : Watch} (fit : (s.watch h).condition ≠ .faulted)
    (becomes : w.condition = .faulted) : s.moveCondition h w .motor =
      (s.setWatch h w).notify (.headCondition h (s.watch h).condition .faulted .motor w.strikes w.misses) := by
  rw [moveCondition_changed (by rw [becomes]; exact fit), becomes]

section
variable {s} {h : Nat}

theorem motorFault_faulted (faulted : (s.watch h).condition = .faulted) : s.motorFault h = s := if_pos faulted

variable (fit : (s.watch h).condition ≠ .faulted)
include fit

theorem motorFault_at_rest (stage : (s.watch h).stage = .none ∨ (s.watch h).stage = .sent) :
    s.motorFault h = (s.setWatch h { s.watch h with condition := .faulted, strikes := 0 }).notify
      (.headCondition h (s.watch h).condition .faulted .motor 0 (s.watch h).misses) := by
  have moved := moveCondition_motor (w := { s.watch h with condition := .faulted, strikes := 0 }) fit rfl
  rw [State.motorFault, if_neg fit]
  dsimp only at moved ⊢
  rcases stage with rest | sent
  · rw [rest] at moved ⊢
    exact moved
  · rw [sent] at moved ⊢
    exact moved

theorem motorFault_queued (stage : (s.watch h).stage = .queued) : s.motorFault h =
    ((s.leaveRehome h).setWatch h { s.watch h with condition := .faulted, strikes := 0, stage := .none }).notify
      (.headCondition h (s.watch h).condition .faulted .motor 0 (s.watch h).misses) := by
  rw [State.motorFault, if_neg fit, stage]
  exact moveCondition_motor (s := s.leaveRehome h) fit rfl

theorem motorFault_homing (stage : (s.watch h).stage = .homing) : s.motorFault h =
    (((s.setWatch h { s.watch h with condition := .faulted, strikes := 0, stage := .none, deadline := none }).notify
      (.headCondition h (s.watch h).condition .faulted .motor 0 (s.watch h).misses)).lowerHoming 1).dispatch := by
  rw [State.motorFault, if_neg fit, stage]
  exact congrArg (fun u : State => (u.lowerHoming 1).dispatch) (moveCondition_motor fit rfl)

end

theorem motorFault_condition (h : Nat) : ((s.motorFault h).watch h).condition = .faulted := by
  by_cases faulted : (s.watch h).condition = .faulted
  · rw [motorFault_faulted faulted, faulted]
  · cases stage : (s.watch h).stage with
    | none => rw [motorFault_at_rest faulted (.inl stage), notify_watch, watch_setWatch, if_pos rfl]
    | sent => rw [motorFault_at_rest faulted (.inr stage), notify_watch, watch_setWatch, if_pos rfl]
    | queued => rw [motorFault_queued faulted stage, notify_watch, watch_setWatch, if_pos rfl]
    | homing => rw [motorFault_homing faulted stage, dispatch_condition, lowerHoming_watch, notify_watch, watch_setWatch, if_pos rfl]

/-! ## Drift -/

theorem judged_iff (j : Judge) (r : Reported) :
    judged j r = true ↔ r.homing = false ∧ j.values ≠ none ∧ j.settled = true := by
  rw [judged, Bool.and_eq_true, Bool.and_eq_true, Bool.not_eq_true', Option.isSome_iff_ne_none, and_assoc]

theorem drifted_iff {j : Judge} {pan tilt : Nat} (values : j.values = some (pan, tilt)) (tolerance : Nat) (r : Reported) :
    drifted tolerance j r = true ↔ pan + tolerance < r.pan ∨ r.pan + tolerance < pan ∨ tilt + tolerance < r.tilt
      ∨ r.tilt + tolerance < tilt := by
  rw [drifted, values, Option.any_some, Bool.or_eq_true, decide_eq_true_iff, decide_eq_true_iff, unitDistance, unitDistance]
  omega

section
variable {s} {h : Nat} {j : Judge} {r : Reported}

theorem judgeDrift_unjudged (unjudged : judged j r = false) : s.judgeDrift h j r = s := by
  rw [State.judgeDrift, unjudged]
  rfl

theorem judgeDrift_clean (fair : judged j r = true) (clean : drifted (s.headPatch h).driftTolerance j r = false) :
    s.judgeDrift h j r = s.setWatch h { s.watch h with strikes := 0 } := by
  rw [State.judgeDrift, fair, clean]
  rfl

theorem judgeDrift_drifted (fair : judged j r = true) (off : drifted (s.headPatch h).driftTolerance j r = true) :
    s.judgeDrift h j r = s.strike h := by
  rw [State.judgeDrift, fair, off]
  rfl

end

theorem strike_counts {s : State} {h : Nat} (spared : (s.watch h).strikes = 0 ∨ (s.watch h).condition ≠ .active) :
    s.strike h = s.setWatch h { s.watch h with strikes := min 2 ((s.watch h).strikes + 1) } := by
  refine if_neg ?_
  rintro ⟨struck, active⟩
  exact spared.elim (Nat.ne_of_gt struck) fun other => other active

/-- R158: the state after the strike that makes a head DRIFTED. -/
def State.struck (s : State) (h : Nat) : State :=
  (s.setWatch h { s.watch h with strikes := 2, condition := .drifted }).notify
    (.headCondition h .active .drifted .drift 2 (s.watch h).misses)

theorem strike_drifts {s : State} {h : Nat} (struck : 1 ≤ (s.watch h).strikes) (active : (s.watch h).condition = .active) :
    s.strike h = if (s.headPatch h).autoRehome = true ∧ (s.watch h).stage = .none then ((s.struck h).joinRehome h).dispatch
      else s.struck h := by
  have moved : s.moveCondition h { s.watch h with strikes := 2, condition := .drifted } .drift = s.struck h := by
    rw [moveCondition_changed (by rw [active]; exact nofun), active]
    rfl
  rw [← moved]
  exact if_pos ⟨struck, active⟩

theorem struck_watch (h : Nat) : (s.struck h).watch h = { s.watch h with strikes := 2, condition := .drifted } := by
  rw [State.struck, notify_watch, watch_setWatch, if_pos rfl]

/-- R158: what the second strike leaves of the head's record. -/
theorem strike_drifts_watch {s : State} {h : Nat} (struck : 1 ≤ (s.watch h).strikes) (active : (s.watch h).condition = .active) :
    ((s.strike h).watch h).condition = .drifted ∧ ((s.strike h).watch h).strikes = 2 := by
  rw [strike_drifts struck active]
  split
  · obtain ⟨stage, same⟩ := dispatch_watch ((s.struck h).joinRehome h) h
    rw [same, joinRehome_watch, struck_watch]
    exact ⟨rfl, rfl⟩
  · rw [struck_watch]
    exact ⟨rfl, rfl⟩

/-- R158: the condition a judgement of drift leaves. -/
theorem judgeDrift_condition (h : Nat) (j : Judge) (r : Reported) : ((s.judgeDrift h j r).watch h).condition =
    if (s.watch h).condition = .active ∧ judged j r = true ∧ drifted (s.headPatch h).driftTolerance j r = true
      ∧ 1 ≤ (s.watch h).strikes then .drifted else (s.watch h).condition := by
  cases fair : judged j r with
  | false => rw [judgeDrift_unjudged fair, if_neg fun all => Bool.false_ne_true all.2.1]
  | true =>
    cases off : drifted (s.headPatch h).driftTolerance j r with
    | false =>
      rw [judgeDrift_clean fair off, watch_setWatch, if_pos rfl, if_neg fun all => Bool.false_ne_true all.2.2.1]
    | true =>
      rw [judgeDrift_drifted fair off]
      by_cases both : 1 ≤ (s.watch h).strikes ∧ (s.watch h).condition = .active
      · rw [(strike_drifts_watch both.1 both.2).1, if_pos ⟨both.2, rfl, rfl, both.1⟩]
      · have spared : (s.watch h).strikes = 0 ∨ (s.watch h).condition ≠ .active :=
          (not_and_or.mp both).imp_left fun few => Nat.lt_one_iff.mp (Nat.lt_of_not_le few)
        rw [strike_counts spared, watch_setWatch, if_pos rfl, if_neg fun all => both ⟨all.2.2.2, all.1⟩]

/-! ## No reply -/

section
variable {s} {h : Nat}

theorem miss_counts (spared : (s.watch h).misses < 2 ∨ (s.watch h).condition ≠ .active ∧ (s.watch h).condition ≠ .drifted) :
    s.miss h = s.setWatch h { s.watch h with misses := min 3 ((s.watch h).misses + 1) } := by
  refine if_neg ?_
  rintro ⟨many, present⟩
  exact spared.elim many.not_gt fun other => present.elim other.1 other.2

theorem miss_loses (many : 2 ≤ (s.watch h).misses)
    (present : (s.watch h).condition = .active ∨ (s.watch h).condition = .drifted) : s.miss h =
      (s.setWatch h { s.watch h with misses := 3, condition := .lost, strikes := 0 }).notify
        (.headCondition h (s.watch h).condition .lost .misses 0 3) := by
  have changed : (s.watch h).condition ≠ .lost := by rcases present with e | e <;> rw [e] <;> exact nofun
  exact (if_pos ⟨many, present⟩).trans
    (moveCondition_changed (w := { s.watch h with misses := 3, condition := .lost, strikes := 0 }) changed .misses)

end

/-! ## A reply, from its record to its end -/

/-- R156: the state after the record, the FAULT notice and MOTOR. -/
def State.replied (s : State) (h : Nat) (kind : QueryKind) (j : Judge) (r : Reported) : State :=
  if r.faults.motor then (s.recordReply h kind j r).motorFault h else s.recordReply h kind j r

section
variable {s} {h : Nat} {kind : QueryKind} {j : Judge} {r : Reported}

theorem replied_unmoved (still : r.faults.motor = false ∨ (s.watch h).condition = .faulted) :
    s.replied h kind j r = s.recordReply h kind j r := by
  rcases still with quiet | faulted
  · exact if_neg (ne_true_of_eq_false quiet)
  · have recorded : ((s.recordReply h kind j r).watch h).condition = .faulted := by
      rw [recordReply_reads.1]
      exact faulted
    rw [State.replied, motorFault_faulted recorded]
    exact ite_self _

theorem replied_motor (motor : r.faults.motor = true) : s.replied h kind j r = (s.recordReply h kind j r).motorFault h :=
  if_pos motor

/-- R156: MOTOR, or a head that is FAULTED already, ends the handling. -/
theorem replied_condition (done : r.faults.motor = true ∨ (s.watch h).condition = .faulted) :
    ((s.replied h kind j r).watch h).condition = .faulted := by
  cases motor : r.faults.motor with
  | true => rw [replied_motor motor, motorFault_condition]
  | false =>
    rw [motor] at done
    rw [replied_unmoved (.inl motor), recordReply_reads.1]
    exact done.resolve_left Bool.false_ne_true

end

/-- R156, R157, R161: what is left to do with a reply after MOTOR. -/
def State.concluded (s : State) (h : Nat) (kind : QueryKind) (j : Judge) (r : Reported) : State :=
  if (s.watch h).condition = .faulted then
    match kind with
    | .home => s.endSent h
    | .status => s
  else
    match kind with
    | .home => s.startHoming h
    | .status => s.statusReply h j r

theorem handleReply_eq (h : Nat) (kind : QueryKind) (j : Judge) (r : Reported) :
    s.handleReply h kind j r = (s.replied h kind j r).concluded h kind j r := by
  show (match kind, ((s.replied h kind j r).watch h).condition with
    | .home, .faulted => (s.replied h kind j r).endSent h
    | .home, _ => (s.replied h kind j r).startHoming h
    | .status, .faulted => s.replied h kind j r
    | .status, _ => (s.replied h kind j r).statusReply h j r) = _
  rw [State.concluded.eq_def]
  generalize s.replied h kind j r = u
  cases kind <;> cases (u.watch h).condition <;> rfl

section
variable {s} {h : Nat} {kind : QueryKind} {j : Judge} {r : Reported}

theorem handleReply_status_done (done : r.faults.motor = true ∨ (s.watch h).condition = .faulted) :
    s.handleReply h .status j r = s.replied h .status j r :=
  (handleReply_eq s h .status j r).trans (if_pos (replied_condition done))

theorem handleReply_home_done (done : r.faults.motor = true ∨ (s.watch h).condition = .faulted) :
    s.handleReply h .home j r = (s.replied h .home j r).endSent h :=
  (handleReply_eq s h .home j r).trans (if_pos (replied_condition done))

variable (quiet : r.faults.motor = false) (fit : (s.watch h).condition ≠ .faulted)
include quiet fit

theorem recordReply_fit : ((s.replied h kind j r).watch h).condition ≠ .faulted := by
  rw [replied_unmoved (.inl quiet), recordReply_reads.1]
  exact fit

theorem handleReply_home_fit : s.handleReply h .home j r = (s.recordReply h .home j r).startHoming h := by
  rw [← replied_unmoved (.inl quiet)]
  exact (handleReply_eq s h .home j r).trans (if_neg (recordReply_fit quiet fit))

theorem handleReply_status_fit : s.handleReply h .status j r = (s.recordReply h .status j r).statusReply h j r := by
  rw [← replied_unmoved (.inl quiet)]
  exact (handleReply_eq s h .status j r).trans (if_neg (recordReply_fit quiet fit))

end

/-! ## A STATUS reply -/

section
variable {s} {h : Nat} {j : Judge} {r : Reported}

theorem statusReply_still_homing (homing : (s.watch h).condition = .homing) (still : r.homing = true) :
    s.statusReply h j r = s := by
  rw [State.statusReply, homing]
  exact if_pos still

theorem statusReply_homed (homing : (s.watch h).condition = .homing) (done : r.homing = false) : s.statusReply h j r =
    (((s.setWatch h { s.watch h with condition := .active, strikes := 0, stage := .none, deadline := none }).notify
      (.headCondition h .homing .active .homingDone 0 (s.watch h).misses)).lowerHoming 1).dispatch := by
  have moved := moveCondition_changed (s := s) (h := h)
    (w := { s.watch h with condition := .active, strikes := 0, stage := .none, deadline := none })
    (by rw [homing]; exact nofun) .homingDone
  rw [State.statusReply, homing]
  rw [homing] at moved
  exact (if_neg (ne_true_of_eq_false done)).trans (congrArg (fun u : State => (u.lowerHoming 1).dispatch) moved)

theorem statusReply_lost (lost : (s.watch h).condition = .lost) : s.statusReply h j r =
    ((s.setWatch h { s.watch h with condition := .active }).notify
      (.headCondition h .lost .active .reply (s.watch h).strikes (s.watch h).misses)).judgeDrift h j r := by
  have moved := moveCondition_changed (s := s) (h := h) (w := { s.watch h with condition := .active })
    (by rw [lost]; exact nofun) .reply
  rw [State.statusReply, lost]
  rw [lost] at moved
  exact congrArg (fun u : State => u.judgeDrift h j r) moved

theorem statusReply_present (present : (s.watch h).condition = .active ∨ (s.watch h).condition = .drifted) :
    s.statusReply h j r = s.judgeDrift h j r := by
  rw [State.statusReply]
  rcases present with active | drifted
  · rw [active]
  · rw [drifted]

end

/-! ## A HOME reply -/

section
variable {s} {h : Nat}

/-- R161: the record of a head whose homing begins. -/
def Watch.homed (w : Watch) (now : Nat) : Watch :=
  { w with condition := .homing, strikes := 0, stage := .homing, deadline := some (now + 20000000) }

theorem startHoming_again (homing : (s.watch h).condition = .homing) :
    s.startHoming h = s.setWatch h ((s.watch h).homed s.now) :=
  moveCondition_unchanged homing _

theorem startHoming_fresh (other : (s.watch h).condition ≠ .homing) : s.startHoming h =
    (s.setWatch h ((s.watch h).homed s.now)).notify
      (.headCondition h (s.watch h).condition .homing .homingStart 0 (s.watch h).misses) :=
  moveCondition_changed (w := (s.watch h).homed s.now) other .homingStart

theorem startHoming_condition : ((s.startHoming h).watch h).condition = .homing :=
  congrArg Watch.condition (moveCondition_watch s h _ .homingStart)

end

/-! ## The condition a FAULT notice carries -/

/-- R158: what a FAULT notice makes of a head that is judged. -/
theorem ite_drifts (c : Condition) (j : Judge) (r : Reported) (tolerance strikes : Nat) :
    (if judged j r && drifted tolerance j r && decide (1 ≤ strikes) then Condition.drifted else c) =
      if judged j r = true ∧ drifted tolerance j r = true ∧ 1 ≤ strikes then .drifted else c := by
  refine if_congr ?_ rfl rfl
  rw [Bool.and_eq_true, Bool.and_eq_true, decide_eq_true_iff, and_assoc]

/-- R157: the condition a STATUS reply leaves of a head that is not FAULTED. -/
theorem statusReply_condition {h : Nat} {j : Judge} {r : Reported} (fit : (s.watch h).condition ≠ .faulted)
    (quiet : r.faults.motor = false) : ((s.statusReply h j r).watch h).condition =
      conditionAfterReply (s.watch h) .status (s.headPatch h).driftTolerance j r := by
  rw [conditionAfterReply, if_neg (not_or.mpr ⟨ne_true_of_eq_false quiet, fit⟩)]
  cases condition : (s.watch h).condition with
  | faulted => exact absurd condition fit
  | active =>
    rw [statusReply_present (.inl condition), judgeDrift_condition, condition, ite_drifts]
    exact if_congr (and_iff_right rfl) rfl rfl
  | drifted =>
    rw [statusReply_present (.inr condition), judgeDrift_condition, condition]
    exact if_neg fun all => nomatch all.1
  | homing =>
    cases still : r.homing with
    | true => rw [statusReply_still_homing condition still, condition]; rfl
    | false =>
      rw [statusReply_homed condition still, dispatch_condition, lowerHoming_watch, notify_watch, watch_setWatch, if_pos rfl]
      rfl
  | lost =>
    have patch (n : Notice) (w : Watch) : ((s.setWatch h w).notify n).headPatch h = s.headPatch h := (notify_reads _ n).2.1 h
    rw [statusReply_lost condition, judgeDrift_condition, patch, notify_watch, watch_setWatch, if_pos rfl, ite_drifts]
    exact if_congr (and_iff_right rfl) rfl rfl

/-- R156, R164: the condition a FAULT notice carries is the one the reply leaves. -/
theorem handleReply_condition (h : Nat) (kind : QueryKind) (j : Judge) (r : Reported) :
    ((s.handleReply h kind j r).watch h).condition =
      conditionAfterReply (s.watch h) kind (s.headPatch h).driftTolerance j r := by
  by_cases done : r.faults.motor = true ∨ (s.watch h).condition = .faulted
  · have after : conditionAfterReply (s.watch h) kind (s.headPatch h).driftTolerance j r = .faulted := if_pos done
    rw [after]
    cases kind with
    | status => rw [handleReply_status_done done, replied_condition done]
    | home => rw [handleReply_home_done done, endSent_condition, replied_condition done]
  · obtain ⟨quiet, fit⟩ := not_or.mp done
    have quiet := Bool.eq_false_of_not_eq_true quiet
    obtain ⟨recorded, _, patch⟩ := recordReply_reads (s := s) (h := h) (kind := kind) (j := j) (r := r)
    cases kind with
    | status =>
      rw [handleReply_status_fit quiet fit, statusReply_condition _ (by rw [recorded]; exact fit) quiet, recorded, patch]
      rfl
    | home =>
      rw [handleReply_home_fit quiet fit, startHoming_condition]
      exact (if_neg (not_or.mpr ⟨ne_true_of_eq_false quiet, fit⟩)).symm

end Sys2Proof.Machine
end

section
/-! SUPPORT. The outcomes of queries, from the record to the dispatch (R156 to R159). -/

namespace Sys2Proof.Machine

open Sys2Proof

variable (s : State)

theorem flags_of_none {w : Watch} (none : w.lastReply = none) : w.flags = ⟨false, false, false⟩ := by
  rw [Watch.flags, none]
  rfl

theorem flags_of_some {w : Watch} {x : LastReply} (some : w.lastReply = some x) : w.flags = x.faults := by
  rw [Watch.flags, some]

/-! ## MOTOR in a reply -/

section
variable {s} {h : Nat} {kind : QueryKind} {j : Judge} {r : Reported} (motor : r.faults.motor = true)
  (fit : (s.watch h).condition ≠ .faulted)
include motor fit

theorem replied_at_rest (stage : (s.watch h).stage = .none ∨ (s.watch h).stage = .sent) : s.replied h kind j r =
    ((s.recordReply h kind j r).setWatch h { (s.watch h).recorded r with condition := .faulted, strikes := 0 }).notify
      (.headCondition h (s.watch h).condition .faulted .motor 0 0) := by
  have recorded := (recordReply_reads (s := s) (h := h) (kind := kind) (j := j) (r := r)).1
  have moved := motorFault_at_rest (s := s.recordReply h kind j r) (by rw [recorded]; exact fit) (by rw [recorded]; exact stage)
  rw [recorded] at moved
  exact (replied_motor motor).trans moved

theorem replied_queued (stage : (s.watch h).stage = .queued) : s.replied h kind j r =
    (((s.recordReply h kind j r).leaveRehome h).setWatch h
      { (s.watch h).recorded r with condition := .faulted, strikes := 0, stage := .none }).notify
      (.headCondition h (s.watch h).condition .faulted .motor 0 0) := by
  have recorded := (recordReply_reads (s := s) (h := h) (kind := kind) (j := j) (r := r)).1
  have moved := motorFault_queued (s := s.recordReply h kind j r) (by rw [recorded]; exact fit) (by rw [recorded]; exact stage)
  rw [recorded] at moved
  exact (replied_motor motor).trans moved

theorem replied_homing (stage : (s.watch h).stage = .homing) : s.replied h kind j r =
    ((((s.recordReply h kind j r).setWatch h
      { (s.watch h).recorded r with condition := .faulted, strikes := 0, stage := .none, deadline := none }).notify
      (.headCondition h (s.watch h).condition .faulted .motor 0 0)).lowerHoming 1).dispatch := by
  have recorded := (recordReply_reads (s := s) (h := h) (kind := kind) (j := j) (r := r)).1
  have moved := motorFault_homing (s := s.recordReply h kind j r) (by rw [recorded]; exact fit) (by rw [recorded]; exact stage)
  rw [recorded] at moved
  exact (replied_motor motor).trans moved

end

/-! ## A reply of a head that is not FAULTED -/

section
variable {s} {h : Nat} {j : Judge} {r : Reported} (quiet : r.faults.motor = false)
include quiet

theorem homeReply_again (homing : (s.watch h).condition = .homing) : s.handleReply h .home j r =
    (s.recordReply h .home j r).setWatch h (((s.watch h).recorded r).homed s.now) := by
  obtain ⟨recorded, now, _⟩ := recordReply_reads (s := s) (h := h) (kind := .home) (j := j) (r := r)
  rw [handleReply_home_fit quiet (by rw [homing]; exact nofun), startHoming_again (by rw [recorded]; exact homing), recorded, now]

theorem homeReply_fresh (fit : (s.watch h).condition ≠ .faulted) (other : (s.watch h).condition ≠ .homing) :
    s.handleReply h .home j r = ((s.recordReply h .home j r).setWatch h (((s.watch h).recorded r).homed s.now)).notify
      (.headCondition h (s.watch h).condition .homing .homingStart 0 0) := by
  obtain ⟨recorded, now, _⟩ := recordReply_reads (s := s) (h := h) (kind := .home) (j := j) (r := r)
  rw [handleReply_home_fit quiet fit, startHoming_fresh (by rw [recorded]; exact other), recorded, now]
  rfl

theorem statusReply_of {c : Condition} (condition : (s.watch h).condition = c) (fit : c ≠ .faulted) :
    s.handleReply h .status j r = (s.recordReply h .status j r).statusReply h j r
      ∧ (s.recordReply h .status j r).watch h = (s.watch h).recorded r
      ∧ ((s.recordReply h .status j r).watch h).condition = c := by
  have recorded := (recordReply_reads (s := s) (h := h) (kind := .status) (j := j) (r := r)).1
  exact ⟨handleReply_status_fit quiet (by rw [condition]; exact fit), recorded, by rw [recorded]; exact condition⟩

end

/-! ## An ACTIVE head -/

/-- R157, R158: a STATUS reply without fault flags, of an ACTIVE head that showed none. -/
theorem handleReply_active {s : State} {h : Nat} {j : Judge} {r : Reported} (active : (s.watch h).condition = .active)
    (before : (s.watch h).flags = Faults.clear) (now : r.faults = Faults.clear) : s.handleReply h .status j r =
      (s.setWatch h ((s.watch h).recorded r)).judgeDrift h j r := by
  obtain ⟨handled, _, present⟩ := statusReply_of (s := s) (j := j) (r := r) (by rw [now]; rfl) active nofun
  rw [handled, statusReply_present (.inl present), recordReply_unchanged (now.trans before.symm)]

section
variable {s} {h : Nat} {j : Judge} {r : Reported} (active : (s.watch h).condition = .active)
  (before : (s.watch h).flags = Faults.clear) (now : r.faults = Faults.clear) (fair : judged j r = true)
include active before now fair

theorem activeReply_clean (clean : drifted (s.headPatch h).driftTolerance j r = false) :
    (s.handleReply h .status j r).watch h = { (s.watch h).recorded r with strikes := 0 } := by
  rw [handleReply_active active before now, judgeDrift_clean (s := s.setWatch h ((s.watch h).recorded r)) fair clean,
    watch_setWatch, if_pos rfl, watch_setWatch, if_pos rfl]

theorem activeReply_strike (off : drifted (s.headPatch h).driftTolerance j r = true) (none : (s.watch h).strikes = 0) :
    (s.handleReply h .status j r).watch h = { (s.watch h).recorded r with strikes := 1 } := by
  have record : (s.setWatch h ((s.watch h).recorded r)).watch h = (s.watch h).recorded r :=
    (watch_setWatch s h h _).trans (if_pos rfl)
  have first : ((s.watch h).recorded r).strikes = 0 := none
  rw [handleReply_active active before now, judgeDrift_drifted (s := s.setWatch h ((s.watch h).recorded r)) fair off,
    strike_counts (.inl (by rw [record]; exact first)), watch_setWatch, if_pos rfl, record, first]
  rfl

theorem activeReply_drifts (off : drifted (s.headPatch h).driftTolerance j r = true) (some : 1 ≤ (s.watch h).strikes) :
    ((s.handleReply h .status j r).watch h).condition = .drifted ∧ ((s.handleReply h .status j r).watch h).strikes = 2 := by
  have record : (s.setWatch h ((s.watch h).recorded r)).watch h = (s.watch h).recorded r :=
    (watch_setWatch s h h _).trans (if_pos rfl)
  rw [handleReply_active active before now, judgeDrift_drifted (s := s.setWatch h ((s.watch h).recorded r)) fair off]
  exact strike_drifts_watch (by rw [record]; exact some) (by rw [record]; exact active)

end

/-- Settles O57: an ACTIVE head, a reply, the judgement of drift, and a missing reply. -/
theorem statusOutcomesMoveTheCondition : Obligations.StatusOutcomesMoveTheCondition := by
  refine ⟨fun s h j r pan tilt active before now still values settled => ?_, fun s h kind j r =>
    ⟨(s.watch h).flags, (s.watch h).recorded r, s.recordReply h kind j r, s.replied h kind j r, s.handleReply h kind j r,
      flags_of_none, fun x => flags_of_some, rfl, rfl, recordReply_unchanged, fun changed => ?_, replied_unmoved,
      fun motor fit => ⟨replied_at_rest motor fit, replied_queued motor fit,
        fun stage => ⟨_, rfl, replied_homing motor fit stage⟩⟩,
      fun done => ⟨?_, ?_⟩, ?_, ?_⟩, fun s h j r => ⟨fun unfair => judgeDrift_unjudged ?_, ?_⟩,
    fun s h => ⟨_, rfl, fun spared => miss_counts ?_, miss_loses, _, rfl, rfl⟩⟩
  · have fair : judged j r = true := (judged_iff j r).mpr ⟨still, by rw [values]; exact nofun, settled⟩
    refine ⟨fun clean => ?_, fun off none => ?_, activeReply_drifts active before now fair, fun few => ?_, fun many => ?_⟩
    · rw [activeReply_clean active before now fair clean, Watch.recorded, now]
    · rw [activeReply_strike active before now fair off none, Watch.recorded, now]
    · rw [State.handleNoReply, miss_counts (.inl few), watch_setWatch, if_pos rfl, min_eq_right (by omega)]
    · rw [State.handleNoReply, miss_loses many (.inl active), notify_watch, watch_setWatch, if_pos rfl]
  · rw [handleReply_condition]
    exact recordReply_told changed
  · rintro rfl
    exact handleReply_status_done done
  · rintro rfl
    exact ⟨_, rfl, handleReply_home_done done⟩
  · rintro quiet fit rfl
    exact ⟨_, rfl, homeReply_again quiet, homeReply_fresh quiet fit⟩
  · rintro quiet rfl
    refine ⟨fun homing still => ?_, fun homing done => ⟨_, rfl, ?_⟩, fun lost => ?_, fun present => ?_⟩
    · obtain ⟨handled, _, condition⟩ := statusReply_of (j := j) quiet homing nofun
      rw [handled, statusReply_still_homing condition still]
    · obtain ⟨handled, recorded, condition⟩ := statusReply_of (j := j) quiet homing nofun
      rw [handled, statusReply_homed condition done, recorded]
      rfl
    · obtain ⟨handled, recorded, condition⟩ := statusReply_of (j := j) quiet lost nofun
      rw [handled, statusReply_lost condition, recorded]
      rfl
    · have fit : ((s.watch h).recorded r).condition ≠ .faulted := by rcases present with e | e <;> rw [e] <;> exact nofun
      obtain ⟨handled, recorded, _⟩ := statusReply_of (j := j) quiet rfl fit
      rw [handled, statusReply_present (by rw [recorded]; exact present)]
  · rw [← Bool.not_eq_true, judged_iff]
    rintro ⟨still, values, settled⟩
    rcases unfair with homing | none | moving
    · exact ne_false_of_eq_true homing still
    · exact values none
    · exact ne_true_of_eq_false moving settled
  · rintro pan tilt _ still values settled rfl
    have fair : judged j r = true := (judged_iff j r).mpr ⟨still, by rw [values]; exact nofun, settled⟩
    refine ⟨fun panHigh panLow tiltHigh tiltLow => judgeDrift_clean fair ?_, fun off => ?_⟩
    · rw [← Bool.not_eq_true, drifted_iff values]
      omega
    · rw [judgeDrift_drifted fair ((drifted_iff values _ r).mpr off)]
      refine ⟨strike_counts, fun some active => ⟨_, rfl, fun manual => ?_, fun auto rest => ?_⟩⟩
      · rw [strike_drifts some active, if_neg]
        · rfl
        · rintro ⟨auto, rest⟩
          exact manual.elim (ne_false_of_eq_true auto) fun busy => busy rest
      · have queue : (s.struck h).supervision.rehomeQueue = s.supervision.rehomeQueue := by
          rw [State.struck]
          simp
        rw [strike_drifts some active, if_pos ⟨auto, rest⟩, State.joinRehome, struck_watch, queue]
        rfl
  · rcases spared with few | other
    · exact .inl few
    · exact .inr (by rcases other with e | e | e <;> rw [e] <;> exact ⟨nofun, nofun⟩)

end Sys2Proof.Machine
end
